-- ==== Sys2Proof/Word.lean ====
section
/-!
DEFINITION. The data LSYNC moves: bytes, ticks, the 5-byte frame, the answer to a timed read, the host command word.
-/

namespace Sys2Proof

/-- 8 bits, bit 7 most significant (R10). -/
abbrev Byte := BitVec 8

/-- A device clock value: 32 bits, unsigned, every pattern legal (R8 TICK_BITS, R190). -/
abbrev Tick := BitVec 32

/-- Bytes 1 to 4 of a frame, in wire order (R10 `f[1..4]`). -/
structure Payload where
  b1 : Byte
  b2 : Byte
  b3 : Byte
  b4 : Byte
  deriving DecidableEq, Repr

/-- A RawFrame: exactly 5 bytes, `b0` first on the wire (R14, R10). -/
structure Frame where
  b0 : Byte
  b1 : Byte
  b2 : Byte
  b3 : Byte
  b4 : Byte
  deriving DecidableEq, Repr

namespace Frame

/-- The five zero bytes a register of frame width holds after reset (R50). -/
def zero : Frame := ⟨0, 0, 0, 0, 0⟩

/-- The frame as the byte string that stands on a stream, byte 0 first (R66). -/
def bytes (f : Frame) : List Byte := [f.b0, f.b1, f.b2, f.b3, f.b4]

/-- The frame as the 40-bit value `F[39:0]`, `F[39:32] = f[0]` (R10, R100). -/
def bits (f : Frame) : BitVec 40 := f.b0 ++ f.b1 ++ f.b2 ++ f.b3 ++ f.b4

/-- `f[1..4]` (R10). -/
def payload (f : Frame) : Payload := ⟨f.b1, f.b2, f.b3, f.b4⟩

end Frame

/-- A frame from byte 0 and `f[1..4]`. -/
def Payload.withByte0 (p : Payload) (b0 : Byte) : Frame := ⟨b0, p.b1, p.b2, p.b3, p.b4⟩

/-- The answer of the environment to one `RxRead(5)`: any byte string of length 0 to 5 and no other (R63, R64). -/
inductive RxAnswer where
  /-- An empty read: 0 bytes (R15, R63). -/
  | empty
  /-- A short read of 1 byte. -/
  | short1 (b0 : Byte)
  /-- A short read of 2 bytes. -/
  | short2 (b0 b1 : Byte)
  /-- A short read of 3 bytes. -/
  | short3 (b0 b1 b2 : Byte)
  /-- A short read of 4 bytes. -/
  | short4 (b0 b1 b2 b3 : Byte)
  /-- A full read: exactly 5 bytes. -/
  | full (f : Frame)
  deriving DecidableEq, Repr

/-- The bytes the answer is made of, in the order the transport received them (R75 d). -/
def RxAnswer.bytes : RxAnswer → List Byte
  | .empty => []
  | .short1 b0 => [b0]
  | .short2 b0 b1 => [b0, b1]
  | .short3 b0 b1 b2 => [b0, b1, b2]
  | .short4 b0 b1 b2 b3 => [b0, b1, b2, b3]
  | .full f => f.bytes

/-- The host command word, format HC: `OP = HC[55:48]`, `PA = HC[47:40]`, `PB = HC[39:32]`, `ARG = HC[31:0]`
(R23, R101). The four fields are all 56 bits. -/
structure Command where
  op : Byte
  pa : Byte
  pb : Byte
  arg : Tick
  deriving DecidableEq, Repr

end Sys2Proof
end

