-- ==== Sys2Proof/Config.lean ====
section
/-!
DEFINITION. The constants the source fixes (R8) and the configuration record fixed at construction (R9, R21).
-/

namespace Sys2Proof

/-- FRAME_LEN (R8): what every `RxRead` asks for. -/
def frameLen : Nat := 5

/-- PROBE_LEN (R8). -/
def probeLen : Nat := 6

/-- MAX_ALIGN_ATTEMPTS (R8). -/
def maxAlignAttempts : Nat := 6

/-- MAX_WAIT_FRAMES (R8): the limit of the acknowledgement wait. -/
def maxWaitFrames : Nat := 20

/-- TICK_BITS (R8). -/
def tickBits : Nat := 32

/-- PORT_A_BITS (R8). -/
def portABits : Nat := 5

/-- PORT_B_BITS (R8). -/
def portBBits : Nat := 8

/-- PROBE (R8, R105, R175): the 6-byte constant. -/
def probeBytes : List Byte := [0x10, 0xE0, 0x7F, 0x0F, 0x55, 0x2A]

/-- PROBE_REPLY (R8, R175): the probe's last 5 bytes. -/
def probeReply : Frame := ⟨0xE0, 0x7F, 0x0F, 0x55, 0x2A⟩

/-- ROUND_TIES (R9, R192): the open parameter, one of half-up and half-even (92_eei_decisions.md, Open parameters). -/
inductive RoundTies where
  /-- An exact half goes to the larger integer. -/
  | halfUp
  /-- An exact half goes to the even integer. -/
  | halfEven
  deriving DecidableEq, Repr, Inhabited

/-- The configuration record: no operation writes it (R21). -/
structure Config where
  /-- TICK_RATE: ticks per second, a positive integer (R9). -/
  tickRate : Nat
  /-- RX_TIMEOUT: the transport's per-read timeout, used by no rule (R9, R21). -/
  rxTimeout : Nat
  /-- ALIGN_WAIT_FRAMES: the frame limit of the wait inside one alignment attempt, 1 to 31 (R9, R21). -/
  alignWaitFrames : Nat
  /-- ROUND_TIES: used on the host side only (R9, R192). -/
  roundTies : RoundTies
  /-- CR_BASE: where the platform places CR0 to CR4; no rule depends on it (R73). -/
  crBase : Nat
  deriving DecidableEq, Repr

namespace Config

/-- The ranges R9 and R21 give the two parameters that have one. -/
abbrev wf (c : Config) : Prop := 0 < c.tickRate ∧ 1 ≤ c.alignWaitFrames ∧ c.alignWaitFrames ≤ 31

/-- RX_TIMEOUT of the constructed block: OPEN, no default (R9); a free value. -/
opaque openRxTimeout : Nat

/-- ROUND_TIES of the constructed block: OPEN, no default (R9, R192); a free value. -/
opaque openRoundTies : RoundTies

/-- CR_BASE of the constructed block: OPEN, no default (R73); a free value. -/
opaque openCrBase : Nat

/-- The record a block is constructed with: the spec's defaults for TICK_RATE (156250) and ALIGN_WAIT_FRAMES (20),
the free values for the three parameters that have no default (R9). -/
def construction : Config where
  tickRate := 156250
  rxTimeout := openRxTimeout
  alignWaitFrames := 20
  roundTies := openRoundTies
  crBase := openCrBase

end Config

end Sys2Proof
end

