-- ==== Sys2Proof/Syntax.lean ====
section
/-!
DEFINITION. One constructor per row of spec/opcode_table.json: 13 host command rows (HC), 5 outbound rows (OF5, OF6),
17 inbound rows (IF5). A constructor carries every bit its row does not fix, the ignored ones too, so that decoding
loses nothing: an ignored bit of a command word is latched in CMD, an ignored bit of a frame stays in EVENT.RAW.
-/

namespace Sys2Proof

/-- The three transaction ports of R6: where the bits of an instruction stand decides how they are read (R100). -/
inductive Port where
  /-- The HOST port: command words, format HC. -/
  | host
  /-- The TX port: outbound frames and the probe, formats OF5 and OF6. -/
  | tx
  /-- The RX port: inbound frames, format IF5. -/
  | rx
  deriving DecidableEq, Repr

/-- The instructions of LSYNC. -/
inductive Instr where
  -- HC: OP selects, PA, PB, ARG are the latch's operand fields (R101), used or not (R102)
  | align (pa pb : Byte) (arg : Tick)
  | rstclk (pa pb : Byte) (arg : Tick)
  | setp (pa pb : Byte) (arg : Tick)
  | setpb (pa pb : Byte) (arg : Tick)
  | sched (pa pb : Byte) (arg : Tick)
  | rdmsg (pa pb : Byte) (arg : Tick)
  | reservedOp0 (pa pb : Byte) (arg : Tick)
  | reservedOp1 (pa pb : Byte) (arg : Tick)
  | reservedOp2 (op pa pb : Byte) (arg : Tick)
  | reservedOp3 (op pa pb : Byte) (arg : Tick)
  | reservedOp4 (op pa pb : Byte) (arg : Tick)
  | reservedOp5 (op pa pb : Byte) (arg : Tick)
  | reservedOp6 (op pa pb : Byte) (arg : Tick)
  -- OF5 and OF6 (R104, R105)
  | reset (ack : Tick)
  | setports (a : BitVec 5) (b : Byte)
  | setportb (b : Byte)
  | schedule (a : BitVec 5) (at_ : Tick)
  | probe
  -- IF5 (R107): x fields are the bits the decoder ignores
  | heartbeat (x : BitVec 4) (tick : Tick)
  | input1 (x : BitVec 4) (tick : Tick)
  | input2 (s : BitVec 3) (x : BitVec 1) (tick : Tick)
  | input3 (x : BitVec 1) (s : BitVec 3) (tick : Tick)
  | portsset (b x2 : Byte) (x3 : BitVec 2) (a : BitVec 5) (x4 : Byte)
  | portbset (b x2 : Byte) (x3 : BitVec 7) (x4 : Byte)
  | resetecho (p : Payload)
  | schedout (a : BitVec 5) (tick : Tick)
  | unknown0 (b0 : Byte) (r : Payload)
  | unknown1 (b0 : Byte) (r : Payload)
  | unknown2 (b0 : Byte) (r : Payload)
  | unknown3 (b0 : Byte) (r : Payload)
  | unknown4 (b0 : Byte) (r : Payload)
  | unknown5 (b0 : Byte) (r : Payload)
  | unknown6 (b0 : Byte) (r : Payload)
  | unknown7 (b0 : Byte) (r : Payload)
  | unknown8 (b0 : Byte) (r : Payload)
  deriving DecidableEq, Repr

/-- The event classes, the values of `EVENT.TAG` that are ever produced (R31). -/
inductive Tag where
  | none | heartbeat | input | portsSet | portBSet | resetEcho | schedOut | unknown
  deriving DecidableEq, Repr

/-- The inbound tagged variant of R14, with the tick in place of the document's `time` (R122, R193). -/
inductive Event where
  | clockHeartbeat (tick : Tick)
  | input (channel : BitVec 2) (subCode : Option (BitVec 4)) (tick : Tick)
  | portsSet (portA : BitVec 5) (portB : Byte)
  | portBSet (portB : Byte)
  | resetEcho (rawPayload : Payload)
  | scheduledOutput (portA : BitVec 5) (tick : Tick)
  | unknown (raw : Frame)
  deriving DecidableEq, Repr

end Sys2Proof
end

