-- ==== Sys2Proof/WellFormed.lean ====
section
/-!
DEFINITION. Which terms of Instr stand for words of their own row. Field widths say it for every row but the ranges:
a reserved operation code of rows 2 to 6 and byte 0 of an Unknown row are whole bytes, and must match the row's pattern.
-/

namespace Sys2Proof

/-- `OP` matches the pattern of its RESERVED_OP row (R101, R111), and byte 0 of an unclassified frame the pattern of its
UNKNOWN row (R149). -/
def Instr.wf : Instr → Bool
  | .reservedOp2 op _ _ _ => op &&& 0xF8 == 0x08
  | .reservedOp3 op _ _ _ => op &&& 0xF0 == 0x10
  | .reservedOp4 op _ _ _ => op &&& 0xE0 == 0x20
  | .reservedOp5 op _ _ _ => op &&& 0xC0 == 0x40
  | .reservedOp6 op _ _ _ => op &&& 0x80 == 0x80
  | .unknown0 b0 _ => b0 &&& 0xF9 == 0x01
  | .unknown1 b0 _ => b0 &&& 0xFB == 0x02
  | .unknown2 b0 _ => b0 &&& 0xF8 == 0x08
  | .unknown3 b0 _ => b0 &&& 0xF0 == 0x30
  | .unknown4 b0 _ => b0 &&& 0xF0 == 0x50
  | .unknown5 b0 _ => b0 &&& 0xE0 == 0x60
  | .unknown6 b0 _ => b0 &&& 0xF0 == 0x90
  | .unknown7 b0 _ => b0 &&& 0xE0 == 0xA0
  | .unknown8 b0 _ => b0 &&& 0xE0 == 0xC0
  | .align _ _ _ | .rstclk _ _ _ | .setp _ _ _ | .setpb _ _ _ | .sched _ _ _ | .rdmsg _ _ _
  | .reservedOp0 _ _ _ | .reservedOp1 _ _ _
  | .reset _ | .setports _ _ | .setportb _ | .schedule _ _ | .probe
  | .heartbeat _ _ | .input1 _ _ | .input2 _ _ _ | .input3 _ _ _ | .portsset _ _ _ _ _ | .portbset _ _ _ _
  | .resetecho _ | .schedout _ _ => true

end Sys2Proof
end

