-- ==== Sys2Proof/Decode.lean ====
section
/-!
DEFINITION. From bits to instructions and back: big-endian helpers, the command word, the three decoders, the encoder,
the event a frame stands for, the opcode table's rows.
-/

namespace Sys2Proof

/-! ### Big-endian helpers (R11, R65) -/

/-- `be32(v)`: byte 1 carries bits 31:24, byte 4 carries bits 7:0 (R11, R65). -/
def be32 (v : Tick) : Payload :=
  ⟨v.extractLsb' 24 8, v.extractLsb' 16 8, v.extractLsb' 8 8, v.extractLsb' 0 8⟩

/-- `u32(s)`: the 32-bit value whose most significant byte is the first (R11). -/
def u32 (p : Payload) : Tick := p.b1 ++ p.b2 ++ p.b3 ++ p.b4

/-- The low 5 bits of a Port A operand, `a & 0x1F` as a 5-bit value (R102, R108). -/
def low5 (b : Byte) : BitVec 5 := b.extractLsb' 0 5

/-! ### The outbound frames (R170 to R175) -/

/-- `enc_reset(ack)` (R171). -/
def encReset (ack : Tick) : Frame := (be32 ack).withByte0 0x00

/-- `enc_setports(a, b)`: Port A is masked to 5 bits, bytes 2 and 4 stay zero (R172). -/
def encSetPorts (a b : Byte) : Frame := ⟨0x04, b, 0x00, 0x80 ||| (a &&& 0x1F), 0x00⟩

/-- `enc_setportb(b)` (R173). -/
def encSetPortB (b : Byte) : Frame := ⟨0x04, b, 0x00, 0x00, 0x00⟩

/-- `enc_schedule(a, at)`: Port A is masked to 5 bits (R174). -/
def encSchedule (a : Byte) (at_ : Tick) : Frame := (be32 at_).withByte0 (0xE0 ||| (a &&& 0x1F))

/-! ### The host command word (R101) -/

namespace Command

/-- The fields of the 56-bit word written to CR0 (R23, R101). -/
def ofBits (w : BitVec 56) : Command :=
  ⟨w.extractLsb' 48 8, w.extractLsb' 40 8, w.extractLsb' 32 8, w.extractLsb' 0 32⟩

/-- The 56-bit word of the fields (R23, R101). -/
def toBits (c : Command) : BitVec 56 := c.op ++ c.pa ++ c.pb ++ c.arg

/-- The word as bytes, most significant first, the order in which the table's pattern writes them (R100). -/
def bytes (c : Command) : List Byte :=
  [c.op, c.pa, c.pb, (be32 c.arg).b1, (be32 c.arg).b2, (be32 c.arg).b3, (be32 c.arg).b4]

end Command

/-- The operation a command word selects (R101, R111); the reserved codes fall into the table's seven ranges. -/
def decodeCommand (c : Command) : Instr :=
  if c.op = 0x01 then .align c.pa c.pb c.arg
  else if c.op = 0x02 then .rstclk c.pa c.pb c.arg
  else if c.op = 0x03 then .setp c.pa c.pb c.arg
  else if c.op = 0x04 then .setpb c.pa c.pb c.arg
  else if c.op = 0x05 then .sched c.pa c.pb c.arg
  else if c.op = 0x06 then .rdmsg c.pa c.pb c.arg
  else if c.op = 0x00 then .reservedOp0 c.pa c.pb c.arg
  else if c.op = 0x07 then .reservedOp1 c.pa c.pb c.arg
  else if c.op &&& 0xF8 = 0x08 then .reservedOp2 c.op c.pa c.pb c.arg
  else if c.op &&& 0xF0 = 0x10 then .reservedOp3 c.op c.pa c.pb c.arg
  else if c.op &&& 0xE0 = 0x20 then .reservedOp4 c.op c.pa c.pb c.arg
  else if c.op &&& 0xC0 = 0x40 then .reservedOp5 c.op c.pa c.pb c.arg
  else .reservedOp6 c.op c.pa c.pb c.arg

/-- Is the operation code reserved: `0x00`, `0x07` to `0xFF` (R101, R111)? -/
def reservedOp (op : Byte) : Bool := op = 0x00 || 0x07 ≤ op.toNat

/-! ### The inbound frames (R140) -/

/-- The class of a frame, as an instruction: the tests of R140 in the document's order, first match wins, then the
nine rows of the Unknown class (R149). -/
def decodeInbound (f : Frame) : Instr :=
  if f.b0 &&& 0xF0 = 0x10 then .heartbeat (f.b0.extractLsb' 0 4) (u32 f.payload)
  else if f.b0 &&& 0xF0 = 0x20 then .input1 (f.b0.extractLsb' 0 4) (u32 f.payload)
  else if f.b0 &&& 0xF0 = 0x40 then .input2 (f.b0.extractLsb' 1 3) (f.b0.extractLsb' 0 1) (u32 f.payload)
  else if f.b0 &&& 0xF0 = 0x80 then .input3 (f.b0.extractLsb' 3 1) (f.b0.extractLsb' 0 3) (u32 f.payload)
  else if f.b0 = 0x04 then
    if f.b3 &&& 0x80 ≠ 0 then .portsset f.b1 f.b2 (f.b3.extractLsb' 5 2) (low5 f.b3) f.b4
    else .portbset f.b1 f.b2 (f.b3.extractLsb' 0 7) f.b4
  else if f.b0 = 0x00 then .resetecho f.payload
  else if f.b0 &&& 0xE0 = 0xE0 then .schedout (low5 f.b0) (u32 f.payload)
  else if f.b0 &&& 0xF9 = 0x01 then .unknown0 f.b0 f.payload
  else if f.b0 &&& 0xFB = 0x02 then .unknown1 f.b0 f.payload
  else if f.b0 &&& 0xF8 = 0x08 then .unknown2 f.b0 f.payload
  else if f.b0 &&& 0xF0 = 0x30 then .unknown3 f.b0 f.payload
  else if f.b0 &&& 0xF0 = 0x50 then .unknown4 f.b0 f.payload
  else if f.b0 &&& 0xE0 = 0x60 then .unknown5 f.b0 f.payload
  else if f.b0 &&& 0xF0 = 0x90 then .unknown6 f.b0 f.payload
  else if f.b0 &&& 0xE0 = 0xA0 then .unknown7 f.b0 f.payload
  else .unknown8 f.b0 f.payload

/-- `decode(f)` of R140: the event of the first condition that holds. `sub_code` of channel 2 is `f[0] & 0x0E`,
unshifted (R143), of channel 3 `f[0] & 0x07` (R144). -/
def decodeEvent (f : Frame) : Event :=
  if f.b0 &&& 0xF0 = 0x10 then .clockHeartbeat (u32 f.payload)
  else if f.b0 &&& 0xF0 = 0x20 then .input 1 none (u32 f.payload)
  else if f.b0 &&& 0xF0 = 0x40 then .input 2 (some ((f.b0 &&& 0x0E).extractLsb' 0 4)) (u32 f.payload)
  else if f.b0 &&& 0xF0 = 0x80 then .input 3 (some ((f.b0 &&& 0x07).extractLsb' 0 4)) (u32 f.payload)
  else if f.b0 = 0x04 then
    if f.b3 &&& 0x80 ≠ 0 then .portsSet (low5 f.b3) f.b1 else .portBSet f.b1
  else if f.b0 = 0x00 then .resetEcho f.payload
  else if f.b0 &&& 0xE0 = 0xE0 then .scheduledOutput (low5 f.b0) (u32 f.payload)
  else .unknown f

/-- `EVENT.TAG` of an event (R31, R141 to R149). -/
def Event.tag : Event → Tag
  | .clockHeartbeat _ => .heartbeat
  | .input _ _ _ => .input
  | .portsSet _ _ => .portsSet
  | .portBSet _ => .portBSet
  | .resetEcho _ => .resetEcho
  | .scheduledOutput _ _ => .schedOut
  | .unknown _ => .unknown

/-- The map of byte 0 of R109, the other reading R150 allows: the class by the value of byte 0 alone, but for
`0x04`, where bit 7 of byte 3 chooses. -/
def classByMap (f : Frame) : Tag :=
  if f.b0.toNat = 0x00 then .resetEcho
  else if f.b0.toNat ≤ 0x03 then .unknown
  else if f.b0.toNat = 0x04 then if f.b3.getLsbD 7 then .portsSet else .portBSet
  else if f.b0.toNat ≤ 0x0F then .unknown
  else if f.b0.toNat ≤ 0x1F then .heartbeat
  else if f.b0.toNat ≤ 0x2F then .input
  else if f.b0.toNat ≤ 0x3F then .unknown
  else if f.b0.toNat ≤ 0x4F then .input
  else if f.b0.toNat ≤ 0x7F then .unknown
  else if f.b0.toNat ≤ 0x8F then .input
  else if f.b0.toNat ≤ 0xDF then .unknown
  else .schedOut

/-! ### Decoding bytes -/

/-- Why a byte string is no instruction of its port. -/
inductive Reject where
  /-- The string is not of a length the port's formats have: 7 at HOST, 5 or 6 at TX, 5 at RX (R100, R113). -/
  | wrongLength
  /-- A byte string LSYNC never writes (R103, R176). -/
  | notAnOutboundFrame
  deriving DecidableEq, Repr

/-- An outbound byte string read as the row it is an instance of (R104, R105). LSYNC itself never decodes what it
writes; this reads the TX stream back. -/
def decodeOutbound : List Byte → Except Reject Instr
  | [b0, b1, b2, b3, b4] =>
    if b0 = 0x00 then .ok (.reset (u32 ⟨b1, b2, b3, b4⟩))
    else if b0 = 0x04 then
      if b2 = 0 ∧ b4 = 0 then
        if b3 &&& 0xE0 = 0x80 then .ok (.setports (low5 b3) b1)
        else if b3 = 0 then .ok (.setportb b1)
        else .error .notAnOutboundFrame
      else .error .notAnOutboundFrame
    else if b0 &&& 0xE0 = 0xE0 then .ok (.schedule (low5 b0) (u32 ⟨b1, b2, b3, b4⟩))
    else .error .notAnOutboundFrame
  | [b0, b1, b2, b3, b4, b5] =>
    if [b0, b1, b2, b3, b4, b5] = probeBytes then .ok .probe else .error .notAnOutboundFrame
  | _ => .error .wrongLength

/-- Decoding, total on any bytes at any port: the port says which formats apply (R100). -/
def decode : Port → List Byte → Except Reject Instr
  | .host, [b0, b1, b2, b3, b4, b5, b6] => .ok (decodeCommand ⟨b0, b1, b2, u32 ⟨b3, b4, b5, b6⟩⟩)
  | .host, _ => .error .wrongLength
  | .tx, bs => decodeOutbound bs
  | .rx, [b0, b1, b2, b3, b4] => .ok (decodeInbound ⟨b0, b1, b2, b3, b4⟩)
  | .rx, _ => .error .wrongLength

/-! ### The encoder -/

/-- The frame an instruction of an outbound or inbound row stands for; `none` for the rows that are no 5-byte frame. -/
def Instr.frame? : Instr → Option Frame
  | .reset ack => some (encReset ack)
  | .setports a b => some (encSetPorts (a.setWidth 8) b)
  | .setportb b => some (encSetPortB b)
  | .schedule a at_ => some (encSchedule (a.setWidth 8) at_)
  | .heartbeat x tick => some ((be32 tick).withByte0 (0x1#4 ++ x))
  | .input1 x tick => some ((be32 tick).withByte0 (0x2#4 ++ x))
  | .input2 s x tick => some ((be32 tick).withByte0 (0x4#4 ++ s ++ x))
  | .input3 x s tick => some ((be32 tick).withByte0 (0x8#4 ++ x ++ s))
  | .portsset b x2 x3 a x4 => some ⟨0x04, b, x2, 1#1 ++ x3 ++ a, x4⟩
  | .portbset b x2 x3 x4 => some ⟨0x04, b, x2, 0#1 ++ x3, x4⟩
  | .resetecho p => some (p.withByte0 0x00)
  | .schedout a tick => some ((be32 tick).withByte0 (0x7#3 ++ a))
  | .unknown0 b0 r | .unknown1 b0 r | .unknown2 b0 r | .unknown3 b0 r | .unknown4 b0 r | .unknown5 b0 r
  | .unknown6 b0 r | .unknown7 b0 r | .unknown8 b0 r => some (r.withByte0 b0)
  | .align _ _ _ | .rstclk _ _ _ | .setp _ _ _ | .setpb _ _ _ | .sched _ _ _ | .rdmsg _ _ _
  | .reservedOp0 _ _ _ | .reservedOp1 _ _ _ | .reservedOp2 _ _ _ _ | .reservedOp3 _ _ _ _ | .reservedOp4 _ _ _ _
  | .reservedOp5 _ _ _ _ | .reservedOp6 _ _ _ _ | .probe => none

/-- The command word an instruction of an HC row stands for (R101); `none` for the other rows. -/
def Instr.command? : Instr → Option Command
  | .align pa pb arg => some ⟨0x01, pa, pb, arg⟩
  | .rstclk pa pb arg => some ⟨0x02, pa, pb, arg⟩
  | .setp pa pb arg => some ⟨0x03, pa, pb, arg⟩
  | .setpb pa pb arg => some ⟨0x04, pa, pb, arg⟩
  | .sched pa pb arg => some ⟨0x05, pa, pb, arg⟩
  | .rdmsg pa pb arg => some ⟨0x06, pa, pb, arg⟩
  | .reservedOp0 pa pb arg => some ⟨0x00, pa, pb, arg⟩
  | .reservedOp1 pa pb arg => some ⟨0x07, pa, pb, arg⟩
  | .reservedOp2 op pa pb arg | .reservedOp3 op pa pb arg | .reservedOp4 op pa pb arg
  | .reservedOp5 op pa pb arg | .reservedOp6 op pa pb arg => some ⟨op, pa, pb, arg⟩
  | .reset _ | .setports _ _ | .setportb _ | .schedule _ _ | .probe
  | .heartbeat _ _ | .input1 _ _ | .input2 _ _ _ | .input3 _ _ _ | .portsset _ _ _ _ _ | .portbset _ _ _ _
  | .resetecho _ | .schedout _ _ | .unknown0 _ _ | .unknown1 _ _ | .unknown2 _ _ | .unknown3 _ _ | .unknown4 _ _
  | .unknown5 _ _ | .unknown6 _ _ | .unknown7 _ _ | .unknown8 _ _ => none

/-- Which port an instruction's bits stand at (the table's format column). -/
def Instr.port : Instr → Port
  | .align _ _ _ | .rstclk _ _ _ | .setp _ _ _ | .setpb _ _ _ | .sched _ _ _ | .rdmsg _ _ _
  | .reservedOp0 _ _ _ | .reservedOp1 _ _ _ | .reservedOp2 _ _ _ _ | .reservedOp3 _ _ _ _ | .reservedOp4 _ _ _ _
  | .reservedOp5 _ _ _ _ | .reservedOp6 _ _ _ _ => .host
  | .reset _ | .setports _ _ | .setportb _ | .schedule _ _ | .probe => .tx
  | .heartbeat _ _ | .input1 _ _ | .input2 _ _ _ | .input3 _ _ _ | .portsset _ _ _ _ _ | .portbset _ _ _ _
  | .resetecho _ | .schedout _ _ | .unknown0 _ _ | .unknown1 _ _ | .unknown2 _ _ | .unknown3 _ _ | .unknown4 _ _
  | .unknown5 _ _ | .unknown6 _ _ | .unknown7 _ _ | .unknown8 _ _ => .rx

/-- The bytes of an instruction, first byte first: the command word (R101), the probe (R105) or the frame. -/
def encode (i : Instr) : List Byte :=
  match i.command?, i.frame? with
  | some c, _ => c.bytes
  | none, some f => f.bytes
  | none, none => probeBytes

/-! ### The words of spec/opcode_table.json -/

/-- A row of the opcode table: a word of `width` bits is the row's when its bits under `mask` are `pattern`. -/
structure OpcodeRow where
  mnemonic : String
  port : Port
  width : Nat
  mask : Nat
  pattern : Nat
  deriving DecidableEq, Repr

/-- The HC rows. -/
def hostRows : List OpcodeRow := [
  ⟨"ALIGN", .host, 56, 0xFF000000000000, 0x01000000000000⟩,
  ⟨"RSTCLK", .host, 56, 0xFF000000000000, 0x02000000000000⟩,
  ⟨"SETP", .host, 56, 0xFF000000000000, 0x03000000000000⟩,
  ⟨"SETPB", .host, 56, 0xFF000000000000, 0x04000000000000⟩,
  ⟨"SCHED", .host, 56, 0xFF000000000000, 0x05000000000000⟩,
  ⟨"RDMSG", .host, 56, 0xFF000000000000, 0x06000000000000⟩,
  ⟨"RESERVED_OP_0", .host, 56, 0xFF000000000000, 0x00000000000000⟩,
  ⟨"RESERVED_OP_1", .host, 56, 0xFF000000000000, 0x07000000000000⟩,
  ⟨"RESERVED_OP_2", .host, 56, 0xF8000000000000, 0x08000000000000⟩,
  ⟨"RESERVED_OP_3", .host, 56, 0xF0000000000000, 0x10000000000000⟩,
  ⟨"RESERVED_OP_4", .host, 56, 0xE0000000000000, 0x20000000000000⟩,
  ⟨"RESERVED_OP_5", .host, 56, 0xC0000000000000, 0x40000000000000⟩,
  ⟨"RESERVED_OP_6", .host, 56, 0x80000000000000, 0x80000000000000⟩]

/-- The OF5 and OF6 rows. -/
def outboundRows : List OpcodeRow := [
  ⟨"RESET", .tx, 40, 0xFF00000000, 0x0000000000⟩,
  ⟨"SETPORTS", .tx, 40, 0xFF00FFE0FF, 0x0400008000⟩,
  ⟨"SETPORTB", .tx, 40, 0xFF00FFFFFF, 0x0400000000⟩,
  ⟨"SCHEDULE", .tx, 40, 0xE000000000, 0xE000000000⟩,
  ⟨"PROBE", .tx, 48, 0xFFFFFFFFFFFF, 0x10E07F0F552A⟩]

/-- The IF5 rows. -/
def inboundRows : List OpcodeRow := [
  ⟨"HEARTBEAT", .rx, 40, 0xF000000000, 0x1000000000⟩,
  ⟨"INPUT1", .rx, 40, 0xF000000000, 0x2000000000⟩,
  ⟨"INPUT2", .rx, 40, 0xF000000000, 0x4000000000⟩,
  ⟨"INPUT3", .rx, 40, 0xF000000000, 0x8000000000⟩,
  ⟨"PORTSSET", .rx, 40, 0xFF00008000, 0x0400008000⟩,
  ⟨"PORTBSET", .rx, 40, 0xFF00008000, 0x0400000000⟩,
  ⟨"RESETECHO", .rx, 40, 0xFF00000000, 0x0000000000⟩,
  ⟨"SCHEDOUT", .rx, 40, 0xE000000000, 0xE000000000⟩,
  ⟨"UNKNOWN_0", .rx, 40, 0xF900000000, 0x0100000000⟩,
  ⟨"UNKNOWN_1", .rx, 40, 0xFB00000000, 0x0200000000⟩,
  ⟨"UNKNOWN_2", .rx, 40, 0xF800000000, 0x0800000000⟩,
  ⟨"UNKNOWN_3", .rx, 40, 0xF000000000, 0x3000000000⟩,
  ⟨"UNKNOWN_4", .rx, 40, 0xF000000000, 0x5000000000⟩,
  ⟨"UNKNOWN_5", .rx, 40, 0xE000000000, 0x6000000000⟩,
  ⟨"UNKNOWN_6", .rx, 40, 0xF000000000, 0x9000000000⟩,
  ⟨"UNKNOWN_7", .rx, 40, 0xE000000000, 0xA000000000⟩,
  ⟨"UNKNOWN_8", .rx, 40, 0xE000000000, 0xC000000000⟩]

/-- spec/opcode_table.json, row by row. -/
def opcodeTable : List OpcodeRow := hostRows ++ (outboundRows ++ inboundRows)

/-- An instruction's row name in spec/opcode_table.json. -/
def Instr.mnemonic : Instr → String
  | .align _ _ _ => "ALIGN"
  | .rstclk _ _ _ => "RSTCLK"
  | .setp _ _ _ => "SETP"
  | .setpb _ _ _ => "SETPB"
  | .sched _ _ _ => "SCHED"
  | .rdmsg _ _ _ => "RDMSG"
  | .reservedOp0 _ _ _ => "RESERVED_OP_0"
  | .reservedOp1 _ _ _ => "RESERVED_OP_1"
  | .reservedOp2 _ _ _ _ => "RESERVED_OP_2"
  | .reservedOp3 _ _ _ _ => "RESERVED_OP_3"
  | .reservedOp4 _ _ _ _ => "RESERVED_OP_4"
  | .reservedOp5 _ _ _ _ => "RESERVED_OP_5"
  | .reservedOp6 _ _ _ _ => "RESERVED_OP_6"
  | .reset _ => "RESET"
  | .setports _ _ => "SETPORTS"
  | .setportb _ => "SETPORTB"
  | .schedule _ _ => "SCHEDULE"
  | .probe => "PROBE"
  | .heartbeat _ _ => "HEARTBEAT"
  | .input1 _ _ => "INPUT1"
  | .input2 _ _ _ => "INPUT2"
  | .input3 _ _ _ => "INPUT3"
  | .portsset _ _ _ _ _ => "PORTSSET"
  | .portbset _ _ _ _ => "PORTBSET"
  | .resetecho _ => "RESETECHO"
  | .schedout _ _ => "SCHEDOUT"
  | .unknown0 _ _ => "UNKNOWN_0"
  | .unknown1 _ _ => "UNKNOWN_1"
  | .unknown2 _ _ => "UNKNOWN_2"
  | .unknown3 _ _ => "UNKNOWN_3"
  | .unknown4 _ _ => "UNKNOWN_4"
  | .unknown5 _ _ => "UNKNOWN_5"
  | .unknown6 _ _ => "UNKNOWN_6"
  | .unknown7 _ _ => "UNKNOWN_7"
  | .unknown8 _ _ => "UNKNOWN_8"

/-- The `n` bytes of a number, most significant first: a table word is one value whose leftmost byte is byte 0
(R100). -/
def wordBytes : Nat → Nat → List Byte
  | 0, _ => []
  | n + 1, w => BitVec.ofNat 8 (w >>> (8 * n)) :: wordBytes n w

/-- The port whose words have this many bits: HC 56, OF6 48; a 40-bit word is read as an inbound frame, the only
5-byte string LSYNC decodes (R140; the choice is notes/assumptions/2.md). -/
def portOfWidth : Nat → Option Port
  | 56 => some .host
  | 48 => some .tx
  | 40 => some .rx
  | _ => none

/-- The instruction the decoder reads from the table word `w` of `nbits` bits. -/
def decodeTableWord (nbits w : Nat) : Option Instr :=
  match portOfWidth nbits with
  | some p => (decode p (wordBytes (nbits / 8) w)).toOption
  | none => none

end Sys2Proof
end

