-- ==== Sys2Proof/Machine/State.lean ====
section
/-!
DEFINITION. The state of LSYNC: the configuration record, CR0 to CR4, the three ports' streams, the observer port.
-/

namespace Sys2Proof.Machine

/-- `STATUS.ERR` (R25, R271): the codes that are ever produced. -/
inductive ErrCode where
  /-- 0 NONE. -/
  | none
  /-- 1 TIMEOUT: an acknowledgement wait ended on an empty read. -/
  | timeout
  /-- 2 EXHAUSTED: an acknowledgement wait consumed 20 non-empty reads without a match. -/
  | exhausted
  /-- 3 ALIGN_FAIL: 6 alignment attempts failed. -/
  | alignFail
  /-- 4 ILLEGAL_OP: reserved operation code. -/
  | illegalOp
  deriving DecidableEq, Repr

/-- `STATUS.ALIGN`, the alignment state machine (R26). -/
inductive AlignState where
  | probing | aligned | failed
  deriving DecidableEq, Repr

/-- `SEQ.PHASE` (R27): what the sequencer does next. -/
inductive Phase where
  /-- 0 IDLE: no operation in progress. -/
  | idle
  /-- 1 ALIGN_TX: ALIGN is about to write the probe. -/
  | alignTx
  /-- 2 ALIGN_RX: ALIGN is inside the wait of an attempt and about to read. -/
  | alignRx
  /-- 3 CMD_TX: RSTCLK, SETP, SETPB or SCHED is about to write its frame. -/
  | cmdTx
  /-- 4 ACK_RX: RSTCLK is inside its acknowledgement wait and about to read. -/
  | ackRx
  /-- 5 MSG_RX: RDMSG is about to read. -/
  | msgRx
  deriving DecidableEq, Repr

/-- `EVENT` (R31): `TAG` and `RAW`. -/
structure EventReg where
  tag : Tag
  raw : Frame
  deriving DecidableEq, Repr

/-- `EVENT = 0`: no event (R31, R50). -/
def EventReg.zero : EventReg := ⟨.none, Frame.zero⟩

/-- An event of the observer port TRACE (R44). -/
inductive TraceEvent where
  /-- `Tx(s)`: `TxWrite(s)` was done. -/
  | tx (s : List Byte)
  /-- `Rx(n, r)`: `RxRead(n)` was answered with `r`. -/
  | rx (n : Nat) (r : RxAnswer)
  /-- `Ev(tag, raw)`: RDMSG returned an event. -/
  | ev (tag : Tag) (raw : Frame)
  deriving DecidableEq, Repr

/-- What the outside does at the HOST port, one item a step (R6, R51, R300). The list of these in State is the model's
own: it says what the host and the platform do next, and any list is allowed. -/
inductive HostReq where
  /-- A blocking call (R240): the host waits for `BUSY == 0` (R312), writes the word to CR0 and waits for `DONE`. -/
  | call (w : BitVec 56)
  /-- A bare write of a control register, at this step whatever `BUSY` is (R23, R51). -/
  | write (cr : Nat) (w : BitVec 56)
  /-- A read of a control register (R51). -/
  | read (cr : Nat)
  /-- The platform asserts reset (R300). -/
  | reset
  /-- The host does nothing in this step; the sequencer goes on. -/
  | pass
  deriving DecidableEq, Repr

/-- The state of the machine. -/
structure State where
  /-- The configuration record (R20, R21). -/
  cfg : Config
  /-- CR0 CMD, the command latch (R23). -/
  cmd : Command
  /-- STATUS[0] (R24, R25). -/
  busy : Bool
  /-- STATUS[1] (R24, R25). -/
  done : Bool
  /-- STATUS[2] (R24, R25). -/
  ok : Bool
  /-- STATUS[5:3] (R24, R25). -/
  err : ErrCode
  /-- STATUS[7:6] (R24, R26). -/
  align : AlignState
  /-- SEQ[2:0] (R27). -/
  phase : Phase
  /-- SEQ[5:3] ATT (R28). -/
  att : BitVec 3
  /-- SEQ[10:6] CNT (R29). -/
  cnt : BitVec 5
  /-- CR3 EXPECT (R30). -/
  expect : Frame
  /-- CR4 EVENT (R31). -/
  event : EventReg
  /-- The observer port, oldest event first (R44). -/
  trace : List TraceEvent
  /-- The TX stream: every byte handed to the transport since construction, oldest first (R60 a). -/
  tx : List Byte
  /-- The RX stream as the environment's answers to the reads to come, the next one first; when the list is exhausted
  every further read is empty (R60 b, R64). -/
  rx : List RxAnswer
  /-- What the host and the platform do next at the HOST port, the next item first. -/
  host : List HostReq
  /-- What the last control register read delivered at the HOST port. -/
  hostOut : Option (BitVec 56)
  deriving DecidableEq, Repr

/-- Nothing in LSYNC ends in a fault: no condition is fatal, all are reported in STATUS (R270). -/
inductive Fault where
  deriving DecidableEq, Repr

/-- Why the model gives a run no meaning. Every one of these is safe: the model stops where hardware may go on. -/
inductive Refusal where
  /-- Raised by exec's arm of an instruction that has no meaning yet. Safe. No arm raises it. -/
  | notModelled (mnemonic : String)
  /-- Raised by every host operation and by a write of CR0 while `BUSY == 1`: the spec refuses the run (R23, R240,
  93_implementation_defined.md U1). Safe. -/
  | commandWhileBusy
  /-- Raised by a read of CR0, which is not readable (R23, 93_implementation_defined.md U16). Safe. -/
  | readOfCommandLatch
  /-- Raised by an access to a control register number above 4 (R73, 93_implementation_defined.md U9). Safe. -/
  | noSuchRegister (cr : Nat)
  /-- Raised by a write of CR1 to CR4, which the host only reads (R24, R27, R30, R31, R51). Safe. -/
  | writeOfReadOnlyRegister (cr : Nat)
  /-- Raised in phase CMD_TX when the latch holds none of the operations that write a frame: no rule of the step table
  (R210) covers it and no run reaches it. Safe. -/
  | noFrameForLatch
  deriving DecidableEq, Repr

/-- The machine right after reset (R50, R301): every readable register zero, the observer port empty. The streams are
empty because nothing has been written or scripted yet; CMD is unspecified there and holds zero (DESIGN CHOICE,
notes/assumptions/1.md). -/
def State.reset : State where
  cfg := Config.construction
  cmd := ⟨0, 0, 0, 0⟩
  busy := false
  done := false
  ok := false
  err := .none
  align := .probing
  phase := .idle
  att := 0
  cnt := 0
  expect := Frame.zero
  event := EventReg.zero
  trace := []
  tx := []
  rx := []
  host := []
  hostOut := none

end Sys2Proof.Machine
end

