-- ==== Sys2Proof/Machine/Flags.lean ====
section
/-!
DEFINITION. The status flags: what issue and report write (R25, R276), and how the host reads CR1 to CR4 (R24 to R31).
-/

namespace Sys2Proof.Machine

/-- The 3-bit code of `STATUS.ERR` (R271). -/
def ErrCode.code : ErrCode → BitVec 3
  | .none => 0
  | .timeout => 1
  | .exhausted => 2
  | .alignFail => 3
  | .illegalOp => 4

/-- The 2-bit code of `STATUS.ALIGN` (R26). -/
def AlignState.code : AlignState → BitVec 2
  | .probing => 0
  | .aligned => 1
  | .failed => 2

/-- The 3-bit code of `SEQ.PHASE` (R27). -/
def Phase.code : Phase → BitVec 3
  | .idle => 0
  | .alignTx => 1
  | .alignRx => 2
  | .cmdTx => 3
  | .ackRx => 4
  | .msgRx => 5

/-- The 4-bit code of `EVENT.TAG` (R31). -/
def tagCode : Tag → BitVec 4
  | .none => 0
  | .heartbeat => 1
  | .input => 2
  | .portsSet => 3
  | .portBSet => 4
  | .resetEcho => 5
  | .schedOut => 6
  | .unknown => 7

/-- CR1 STATUS as the host reads it: BUSY bit 0, DONE bit 1, OK bit 2, ERR bits 5:3, ALIGN bits 7:6 (R24). -/
def State.statusBits (s : State) : BitVec 8 :=
  s.align.code ++ s.err.code ++ BitVec.ofBool s.ok ++ BitVec.ofBool s.done ++ BitVec.ofBool s.busy

/-- CR2 SEQ as the host reads it: PHASE bits 2:0, ATT bits 5:3, CNT bits 10:6, bits 15:11 zero (R27). -/
def State.seqBits (s : State) : BitVec 16 := 0#5 ++ s.cnt ++ s.att ++ s.phase.code

/-- CR3 EXPECT as the host reads it (R30). -/
def State.expectBits (s : State) : BitVec 40 := s.expect.bits

/-- CR4 EVENT as the host reads it: TAG bits 43:40, RAW bits 39:0 (R31). -/
def State.eventBits (s : State) : BitVec 44 := tagCode s.event.tag ++ s.event.raw.bits

/-- The flags at command issue: `BUSY <- 1, DONE <- 0, OK <- 0, ERR <- 0` (R25, R240). -/
def setIssued (s : State) : State := { s with busy := true, done := false, ok := false, err := .none }

/-- The flags at the end of an operation: `BUSY <- 0, DONE <- 1, OK <- o, ERR <- e` (R25, R276). -/
def setReported (o : Bool) (e : ErrCode) (s : State) : State :=
  { s with busy := false, done := true, ok := o, err := e }

end Sys2Proof.Machine
end

