-- ==== Sys2Proof/Machine/Operands.lean ====
section
/-!
DEFINITION. Where operands come from: the frame the latch stands for, and the field views of EVENT (R32).
-/

namespace Sys2Proof.Machine

/-- The outbound frame of the operation in the latch, as an instruction of the table (R242 to R245): Port A is masked
to 5 bits (R102). `none` where the operation writes no frame. -/
def latchFrame (c : Command) : Option Instr :=
  if c.op = 0x02 then some (.reset c.arg)
  else if c.op = 0x03 then some (.setports (low5 c.pa) c.pb)
  else if c.op = 0x04 then some (.setportb c.pb)
  else if c.op = 0x05 then some (.schedule (low5 c.pa) c.arg)
  else none

/-- Does the operation in the latch wait for an acknowledgement: RSTCLK with a nonzero `ARG` (R242)? -/
def awaitsAck (c : Command) : Bool := c.op = 0x02 && c.arg ≠ 0

namespace EventReg

/-- `EV_TICK = u32(f[1..4])`, under HEARTBEAT, INPUT and SCHEDOUT (R32). -/
def tick? (e : EventReg) : Option Tick :=
  match e.tag with
  | .heartbeat | .input | .schedOut => some (u32 e.raw.payload)
  | .none | .portsSet | .portBSet | .resetEcho | .unknown => none

/-- `EV_CH`, under INPUT: the channel by the high nibble of byte 0 (R32, R142 to R144). -/
def channel? (e : EventReg) : Option (BitVec 2) :=
  match e.tag with
  | .input =>
    if e.raw.b0 &&& 0xF0 = 0x20 then some 1
    else if e.raw.b0 &&& 0xF0 = 0x40 then some 2
    else if e.raw.b0 &&& 0xF0 = 0x80 then some 3
    else none
  | .none | .heartbeat | .portsSet | .portBSet | .resetEcho | .schedOut | .unknown => none

/-- `EV_SUBV`, under INPUT: 0 for channel 1, 1 for channels 2 and 3 (R32). -/
def subValid? (e : EventReg) : Option Bool := e.channel?.map (fun ch => ch != 1)

/-- `EV_SUB`, under INPUT with `EV_SUBV = 1`: `f[0] & 0x0E` for channel 2, `f[0] & 0x07` for channel 3 (R32). -/
def sub? (e : EventReg) : Option (BitVec 4) :=
  match e.channel? with
  | some 2 => some ((e.raw.b0 &&& 0x0E).extractLsb' 0 4)
  | some 3 => some ((e.raw.b0 &&& 0x07).extractLsb' 0 4)
  | _ => none

/-- `EV_PA`, under PORTSSET and SCHEDOUT; no value under PORTBSET (R32, 93_implementation_defined.md U2). -/
def portA? (e : EventReg) : Option (BitVec 5) :=
  match e.tag with
  | .portsSet => some (low5 e.raw.b3)
  | .schedOut => some (low5 e.raw.b0)
  | .none | .heartbeat | .input | .portBSet | .resetEcho | .unknown => none

/-- `EV_PB`, under PORTSSET and PORTBSET (R32). -/
def portB? (e : EventReg) : Option Byte :=
  match e.tag with
  | .portsSet | .portBSet => some e.raw.b1
  | .none | .heartbeat | .input | .resetEcho | .schedOut | .unknown => none

/-- `EV_PAYLOAD`, 4 bytes, under RESETECHO (R32). -/
def payload? (e : EventReg) : Option Payload :=
  match e.tag with
  | .resetEcho => some e.raw.payload
  | .none | .heartbeat | .input | .portsSet | .portBSet | .schedOut | .unknown => none

/-- The event the register holds; `none` when `TAG` is NONE (R31). -/
def event? (e : EventReg) : Option Event :=
  match e.tag with
  | .none => none
  | .heartbeat | .input | .portsSet | .portBSet | .resetEcho | .schedOut | .unknown => some (decodeEvent e.raw)

end EventReg

end Sys2Proof.Machine
end

