-- ==== Sys2Proof/Machine/Ops.lean ====
section
/-!
DEFINITION. The shared operations: the two stream primitives, issue and report, the delivery of an event, the bounded
wait, the alignment procedure, the read and the reset at the HOST port.
-/

namespace Sys2Proof.Machine

/-! ### Stream primitives -/

/-- `TxWrite(s)`: the bytes are appended to the TX stream in order, contiguously, all of them; `Tx(s)` is appended to
TRACE; no other effect (R62, R71). -/
def txWrite (bs : List Byte) (s : State) : State :=
  { s with tx := s.tx ++ bs, trace := s.trace ++ [.tx bs] }

/-- The environment's answer to the next `RxRead(5)` (R64): the head of the script, empty when it is exhausted. -/
def nextAnswer (s : State) : RxAnswer := s.rx.headD .empty

/-- The state after an `RxRead(5)`: what it returned is consumed, `Rx(5, r)` is appended to TRACE (R63). -/
def rxRead (s : State) : State :=
  { s with rx := s.rx.tail, trace := s.trace ++ [.rx frameLen (nextAnswer s)] }

/-! ### Issue and report, in place of trap entry and return (R240, R276) -/

/-- Command issue: the word is latched, the flags are set (R23, R25, R240). -/
def issue (c : Command) (s : State) : State := setIssued { s with cmd := c }

/-- `report(o, e)`, the one way an operation ends (R276). -/
def report (o : Bool) (e : ErrCode) (s : State) : State := setReported o e { s with phase := .idle }

/-- The frame of an operation: refused while `BUSY == 1` (R240, 93_implementation_defined.md U1), else the command is
issued and the body runs to its report. -/
def operate (c : Command) (body : State → State) (s : State) : Host.Outcome State Fault Refusal :=
  if s.busy then .refused .commandWhileBusy else .next (body (issue c s))

/-- Goes on from a next state; a fault or a refusal stays. -/
def onNext (f : State → State) : Host.Outcome State Fault Refusal → Host.Outcome State Fault Refusal
  | .next s => .next (f s)
  | .fault r => .fault r
  | .refused r => .refused r

/-! ### Events -/

/-- An event is returned: `EVENT.RAW <- r`, `EVENT.TAG <- tag`, `Trace(Ev(tag, r))` (R246). -/
def deliver (tag : Tag) (raw : Frame) (s : State) : State :=
  { s with event := ⟨tag, raw⟩, trace := s.trace ++ [.ev tag raw] }

/-- No event: `EVENT <- 0` (R31, R246). -/
def clearEvent (s : State) : State := { s with event := EventReg.zero }

/-- What RDMSG does with the answer of its one read, up to its report (R206, R246). -/
def takeMessage (r : RxAnswer) (s : State) : State :=
  match r with
  | .full f => report true .none (deliver (decodeEvent f).tag f s)
  | .empty | .short1 _ | .short2 _ _ | .short3 _ _ _ | .short4 _ _ _ _ => report false .none (clearEvent s)

/-! ### The bounded wait (R203) -/

/-- The three results of a wait (R203). -/
inductive WaitResult where
  | matched | empty | exhausted
  deriving DecidableEq, Repr

/-- The start of a wait: `EXPECT <- expect`, `CNT <- 0` (R203). -/
def armWait (expect : Frame) (s : State) : State := { s with expect := expect, cnt := 0 }

/-- A non-empty read is counted (R29). -/
def countRead (s : State) : State := { s with cnt := s.cnt + 1 }

/-- One turn of the wait's loop after its read was answered with `r`: the result, or `none` to go on (R203, R281). -/
def waitVerdict (limit : Nat) (r : RxAnswer) (s : State) : Option WaitResult :=
  if r = .empty then some .empty
  else if r = .full s.expect then some .matched
  else if (countRead s).cnt.toNat = limit then some .exhausted
  else none

/-- The state after that turn: an empty read is not counted (R203). -/
def waitCount (r : RxAnswer) (s : State) : State := if r = .empty then s else countRead s

/-- One turn of the wait's loop: the read and its bookkeeping. -/
def waitTurn (s : State) : State := waitCount (nextAnswer s) (rxRead s)

/-- The verdict of that turn. -/
def turnVerdict (limit : Nat) (s : State) : Option WaitResult := waitVerdict limit (nextAnswer s) s

/-- The wait's loop, at most `fuel` turns; the result beside the state. With `fuel` the limit and `CNT` zero the loop
ends by itself (R208). -/
def waitLoop (limit : Nat) : Nat → State → WaitResult × State
  | 0, s => (.exhausted, s)
  | fuel + 1, s =>
    match turnVerdict limit s with
    | some w => (w, waitTurn s)
    | none => waitLoop limit fuel (waitTurn s)

/-- `WaitReply(expect, limit)` (R203). -/
def waitReply (expect : Frame) (limit : Nat) (s : State) : WaitResult × State :=
  waitLoop limit limit (armWait expect s)

/-! ### The alignment procedure (R204) -/

/-- The start: `ALIGN <- PROBING`, `ATT <- 0` (R204). -/
def startAlign (s : State) : State := { s with align := .probing, att := 0 }

/-- The probe is written and counted (R204, R28). -/
def countAttempt (s : State) : State := { s with att := s.att + 1 }

/-- The end of ALIGN: `ALIGN <- ALIGNED`, success is reported (R204, R241). -/
def alignSuccess (s : State) : State := report true .none { s with align := .aligned }

/-- The end of ALIGN: `ALIGN <- FAILED`, ALIGN_FAIL is reported (R204, R241). -/
def alignFailure (s : State) : State := report false .alignFail { s with align := .failed }

/-- One attempt: the probe, then the wait for its reply (R204). -/
def alignAttempt (s : State) : WaitResult × State :=
  waitReply probeReply s.cfg.alignWaitFrames (countAttempt (txWrite probeBytes s))

/-- The loop of R204, at most `fuel` attempts, up to the report of R241. -/
def alignLoop : Nat → State → State
  | 0, s => s
  | fuel + 1, s =>
    match alignAttempt s with
    | (.matched, t) => alignSuccess t
    | (_, t) => if t.att.toNat = maxAlignAttempts then alignFailure t else alignLoop fuel t

/-- `Align()` and its report (R204, R241). -/
def alignProcedure (s : State) : State := alignLoop maxAlignAttempts (startAlign s)

/-! ### The HOST port -/

/-- A read of a control register, without side effect on the block (R51): CR1 to CR4, widened with zeros. -/
def readCr (cr : Nat) (s : State) : Except Refusal (BitVec 56) :=
  match cr with
  | 0 => .error .readOfCommandLatch
  | 1 => .ok (s.statusBits.setWidth 56)
  | 2 => .ok (s.seqBits.setWidth 56)
  | 3 => .ok (s.expectBits.setWidth 56)
  | 4 => .ok (s.eventBits.setWidth 56)
  | n => .error (.noSuchRegister n)

/-- The platform asserts reset, at any time: registers take their reset values, TRACE is emptied, an operation in
progress is abandoned without a report; the streams, the configuration and what is outside are untouched
(R50, R300, R302). -/
def platformReset (s : State) : State :=
  { State.reset with cfg := s.cfg, tx := s.tx, rx := s.rx, host := s.host, hostOut := s.hostOut }

end Sys2Proof.Machine
end

