-- ==== Sys2Proof/Machine/HostOps.lean ====
section
/-!
DEFINITION. The meanings of the host command rows (R241 to R247): each operation from its issue to its report.
-/

namespace Sys2Proof.Machine

/-- ALIGN (R241): the alignment procedure; all operand fields are ignored. -/
def execAlign (pa pb : Byte) (arg : Tick) (s : State) : Host.Outcome State Fault Refusal :=
  operate ⟨0x01, pa, pb, arg⟩ alignProcedure s

/-- How RSTCLK reports the result of its wait (R242). -/
def reportAck : WaitResult × State → State
  | (.matched, t) => report true .none t
  | (.empty, t) => report false .timeout t
  | (.exhausted, t) => report false .exhausted t

/-- The body of RSTCLK: the RESET frame, then, unless `ARG == 0`, the wait for the identical 5 bytes (R242). -/
def rstclkBody (arg : Tick) (s : State) : State :=
  if arg = 0 then report true .none (txWrite (encReset arg).bytes s)
  else reportAck (waitReply (encReset arg) maxWaitFrames (txWrite (encReset arg).bytes s))

/-- RSTCLK (R242); `PA` and `PB` are ignored. -/
def execRstclk (pa pb : Byte) (arg : Tick) (s : State) : Host.Outcome State Fault Refusal :=
  operate ⟨0x02, pa, pb, arg⟩ (rstclkBody arg) s

/-- The body of an operation that writes its frame and awaits nothing (R243 to R245). -/
def sendBody (f : Frame) (s : State) : State := report true .none (txWrite f.bytes s)

/-- SETP (R243); `PA[7:5]` is masked off by the encoder, `ARG` is ignored. -/
def execSetp (pa pb : Byte) (arg : Tick) (s : State) : Host.Outcome State Fault Refusal :=
  operate ⟨0x03, pa, pb, arg⟩ (sendBody (encSetPorts pa pb)) s

/-- SETPB (R244); `PA` and `ARG` are ignored. -/
def execSetpb (pa pb : Byte) (arg : Tick) (s : State) : Host.Outcome State Fault Refusal :=
  operate ⟨0x04, pa, pb, arg⟩ (sendBody (encSetPortB pb)) s

/-- SCHED (R245); `PA[7:5]` is masked off by the encoder, `PB` is ignored, no target tick is rejected. -/
def execSched (pa pb : Byte) (arg : Tick) (s : State) : Host.Outcome State Fault Refusal :=
  operate ⟨0x05, pa, pb, arg⟩ (sendBody (encSchedule pa arg)) s

/-- The body of RDMSG: exactly one read, no retry (R206, R246). -/
def rdmsgBody (s : State) : State := takeMessage (nextAnswer s) (rxRead s)

/-- RDMSG (R246); all operand fields are ignored. -/
def execRdmsg (pa pb : Byte) (arg : Tick) (s : State) : Host.Outcome State Fault Refusal :=
  operate ⟨0x06, pa, pb, arg⟩ rdmsgBody s

/-- The body of a reserved operation code: ILLEGAL_OP, no transaction (R247). -/
def illegalBody (s : State) : State := report false .illegalOp s

/-- Reserved operation code `0x00` (R247). -/
def execReservedOp0 (pa pb : Byte) (arg : Tick) (s : State) : Host.Outcome State Fault Refusal :=
  operate ⟨0x00, pa, pb, arg⟩ illegalBody s

/-- Reserved operation code `0x07` (R247). -/
def execReservedOp1 (pa pb : Byte) (arg : Tick) (s : State) : Host.Outcome State Fault Refusal :=
  operate ⟨0x07, pa, pb, arg⟩ illegalBody s

/-- Reserved operation codes `0x08` to `0x0F` (R247). -/
def execReservedOp2 (op pa pb : Byte) (arg : Tick) (s : State) : Host.Outcome State Fault Refusal :=
  operate ⟨op, pa, pb, arg⟩ illegalBody s

/-- Reserved operation codes `0x10` to `0x1F` (R247). -/
def execReservedOp3 (op pa pb : Byte) (arg : Tick) (s : State) : Host.Outcome State Fault Refusal :=
  operate ⟨op, pa, pb, arg⟩ illegalBody s

/-- Reserved operation codes `0x20` to `0x3F` (R247). -/
def execReservedOp4 (op pa pb : Byte) (arg : Tick) (s : State) : Host.Outcome State Fault Refusal :=
  operate ⟨op, pa, pb, arg⟩ illegalBody s

/-- Reserved operation codes `0x40` to `0x7F` (R247). -/
def execReservedOp5 (op pa pb : Byte) (arg : Tick) (s : State) : Host.Outcome State Fault Refusal :=
  operate ⟨op, pa, pb, arg⟩ illegalBody s

/-- Reserved operation codes `0x80` to `0xFF` (R247). -/
def execReservedOp6 (op pa pb : Byte) (arg : Tick) (s : State) : Host.Outcome State Fault Refusal :=
  operate ⟨op, pa, pb, arg⟩ illegalBody s

end Sys2Proof.Machine
end

