-- ==== Sys2Proof/Machine/Inbound.lean ====
section
/-!
DEFINITION. The meanings of the inbound rows (R141 to R149): the event is returned, `EVENT.TAG` and `EVENT.RAW` are
loaded and `Ev` is traced (R246); the decoder writes no flag, the report belongs to RDMSG. `RAW` holds all 40 bits, the
ignored ones too (R107).
-/

namespace Sys2Proof.Machine

/-- HEARTBEAT (R141). -/
def execHeartbeat (x : BitVec 4) (tick : Tick) (s : State) : Host.Outcome State Fault Refusal :=
  .next (deliver .heartbeat ((be32 tick).withByte0 (0x1#4 ++ x)) s)

/-- INPUT1 (R142). -/
def execInput1 (x : BitVec 4) (tick : Tick) (s : State) : Host.Outcome State Fault Refusal :=
  .next (deliver .input ((be32 tick).withByte0 (0x2#4 ++ x)) s)

/-- INPUT2 (R143). -/
def execInput2 (c : BitVec 3) (x : BitVec 1) (tick : Tick) (s : State) : Host.Outcome State Fault Refusal :=
  .next (deliver .input ((be32 tick).withByte0 (0x4#4 ++ c ++ x)) s)

/-- INPUT3 (R144). -/
def execInput3 (x : BitVec 1) (c : BitVec 3) (tick : Tick) (s : State) : Host.Outcome State Fault Refusal :=
  .next (deliver .input ((be32 tick).withByte0 (0x8#4 ++ x ++ c)) s)

/-- PORTSSET (R145). -/
def execPortsset (b x2 : Byte) (x3 : BitVec 2) (a : BitVec 5) (x4 : Byte) (s : State) : Host.Outcome State Fault Refusal :=
  .next (deliver .portsSet ⟨0x04, b, x2, 1#1 ++ x3 ++ a, x4⟩ s)

/-- PORTBSET (R146). -/
def execPortbset (b x2 : Byte) (x3 : BitVec 7) (x4 : Byte) (s : State) : Host.Outcome State Fault Refusal :=
  .next (deliver .portBSet ⟨0x04, b, x2, 0#1 ++ x3, x4⟩ s)

/-- RESETECHO (R147). -/
def execResetecho (p : Payload) (s : State) : Host.Outcome State Fault Refusal :=
  .next (deliver .resetEcho (p.withByte0 0x00) s)

/-- SCHEDOUT (R148). -/
def execSchedout (a : BitVec 5) (tick : Tick) (s : State) : Host.Outcome State Fault Refusal :=
  .next (deliver .schedOut ((be32 tick).withByte0 (0x7#3 ++ a)) s)

/-- UNKNOWN, byte 0 `0x01`, `0x03`, `0x05`, `0x07` (R149): an event like any other. -/
def execUnknown0 (b0 : Byte) (r : Payload) (s : State) : Host.Outcome State Fault Refusal :=
  .next (deliver .unknown (r.withByte0 b0) s)

/-- UNKNOWN, byte 0 `0x02`, `0x06` (R149): an event like any other. -/
def execUnknown1 (b0 : Byte) (r : Payload) (s : State) : Host.Outcome State Fault Refusal :=
  .next (deliver .unknown (r.withByte0 b0) s)

/-- UNKNOWN, byte 0 `0x08` to `0x0F` (R149): an event like any other. -/
def execUnknown2 (b0 : Byte) (r : Payload) (s : State) : Host.Outcome State Fault Refusal :=
  .next (deliver .unknown (r.withByte0 b0) s)

/-- UNKNOWN, byte 0 `0x30` to `0x3F` (R149): an event like any other. -/
def execUnknown3 (b0 : Byte) (r : Payload) (s : State) : Host.Outcome State Fault Refusal :=
  .next (deliver .unknown (r.withByte0 b0) s)

/-- UNKNOWN, byte 0 `0x50` to `0x5F` (R149): an event like any other. -/
def execUnknown4 (b0 : Byte) (r : Payload) (s : State) : Host.Outcome State Fault Refusal :=
  .next (deliver .unknown (r.withByte0 b0) s)

/-- UNKNOWN, byte 0 `0x60` to `0x7F` (R149): an event like any other. -/
def execUnknown5 (b0 : Byte) (r : Payload) (s : State) : Host.Outcome State Fault Refusal :=
  .next (deliver .unknown (r.withByte0 b0) s)

/-- UNKNOWN, byte 0 `0x90` to `0x9F` (R149): an event like any other. -/
def execUnknown6 (b0 : Byte) (r : Payload) (s : State) : Host.Outcome State Fault Refusal :=
  .next (deliver .unknown (r.withByte0 b0) s)

/-- UNKNOWN, byte 0 `0xA0` to `0xBF` (R149): an event like any other. -/
def execUnknown7 (b0 : Byte) (r : Payload) (s : State) : Host.Outcome State Fault Refusal :=
  .next (deliver .unknown (r.withByte0 b0) s)

/-- UNKNOWN, byte 0 `0xC0` to `0xDF` (R149): an event like any other. -/
def execUnknown8 (b0 : Byte) (r : Payload) (s : State) : Host.Outcome State Fault Refusal :=
  .next (deliver .unknown (r.withByte0 b0) s)

end Sys2Proof.Machine
end

