-- ==== Sys2Proof/Machine/Outbound.lean ====
section
/-!
DEFINITION. The meanings of the outbound rows (R171 to R175): the frame is written whole in one `TxWrite`, and nothing
else happens (R201); what the sequencer does after it belongs to the operation (R210).
-/

namespace Sys2Proof.Machine

/-- RESET (R171). -/
def execReset (ack : Tick) (s : State) : Host.Outcome State Fault Refusal :=
  .next (txWrite (encReset ack).bytes s)

/-- SETPORTS (R172). -/
def execSetports (a : BitVec 5) (b : Byte) (s : State) : Host.Outcome State Fault Refusal :=
  .next (txWrite (encSetPorts (a.setWidth 8) b).bytes s)

/-- SETPORTB (R173). -/
def execSetportb (b : Byte) (s : State) : Host.Outcome State Fault Refusal :=
  .next (txWrite (encSetPortB b).bytes s)

/-- SCHEDULE (R174). -/
def execSchedule (a : BitVec 5) (at_ : Tick) (s : State) : Host.Outcome State Fault Refusal :=
  .next (txWrite (encSchedule (a.setWidth 8) at_).bytes s)

/-- PROBE (R175): the only 6-byte write. -/
def execProbe (s : State) : Host.Outcome State Fault Refusal :=
  .next (txWrite probeBytes s)

end Sys2Proof.Machine
end

