-- ==== Sys2Proof/Machine/Dispatch.lean ====
section
/-!
DEFINITION. One arm per constructor of Instr, each one direct call of its meaning.
-/

namespace Sys2Proof.Machine

def exec (i : Instr) (s : State) : Host.Outcome State Fault Refusal :=
  match i with
  | .align pa pb arg => Sys2Proof.Machine.execAlign pa pb arg s
  | .rstclk pa pb arg => Sys2Proof.Machine.execRstclk pa pb arg s
  | .setp pa pb arg => Sys2Proof.Machine.execSetp pa pb arg s
  | .setpb pa pb arg => Sys2Proof.Machine.execSetpb pa pb arg s
  | .sched pa pb arg => Sys2Proof.Machine.execSched pa pb arg s
  | .rdmsg pa pb arg => Sys2Proof.Machine.execRdmsg pa pb arg s
  | .reservedOp0 pa pb arg => Sys2Proof.Machine.execReservedOp0 pa pb arg s
  | .reservedOp1 pa pb arg => Sys2Proof.Machine.execReservedOp1 pa pb arg s
  | .reservedOp2 op pa pb arg => Sys2Proof.Machine.execReservedOp2 op pa pb arg s
  | .reservedOp3 op pa pb arg => Sys2Proof.Machine.execReservedOp3 op pa pb arg s
  | .reservedOp4 op pa pb arg => Sys2Proof.Machine.execReservedOp4 op pa pb arg s
  | .reservedOp5 op pa pb arg => Sys2Proof.Machine.execReservedOp5 op pa pb arg s
  | .reservedOp6 op pa pb arg => Sys2Proof.Machine.execReservedOp6 op pa pb arg s
  | .reset ack => Sys2Proof.Machine.execReset ack s
  | .setports a b => Sys2Proof.Machine.execSetports a b s
  | .setportb b => Sys2Proof.Machine.execSetportb b s
  | .schedule a at_ => Sys2Proof.Machine.execSchedule a at_ s
  | .probe => Sys2Proof.Machine.execProbe s
  | .heartbeat x tick => Sys2Proof.Machine.execHeartbeat x tick s
  | .input1 x tick => Sys2Proof.Machine.execInput1 x tick s
  | .input2 c x tick => Sys2Proof.Machine.execInput2 c x tick s
  | .input3 x c tick => Sys2Proof.Machine.execInput3 x c tick s
  | .portsset b x2 x3 a x4 => Sys2Proof.Machine.execPortsset b x2 x3 a x4 s
  | .portbset b x2 x3 x4 => Sys2Proof.Machine.execPortbset b x2 x3 x4 s
  | .resetecho p => Sys2Proof.Machine.execResetecho p s
  | .schedout a tick => Sys2Proof.Machine.execSchedout a tick s
  | .unknown0 b0 r => Sys2Proof.Machine.execUnknown0 b0 r s
  | .unknown1 b0 r => Sys2Proof.Machine.execUnknown1 b0 r s
  | .unknown2 b0 r => Sys2Proof.Machine.execUnknown2 b0 r s
  | .unknown3 b0 r => Sys2Proof.Machine.execUnknown3 b0 r s
  | .unknown4 b0 r => Sys2Proof.Machine.execUnknown4 b0 r s
  | .unknown5 b0 r => Sys2Proof.Machine.execUnknown5 b0 r s
  | .unknown6 b0 r => Sys2Proof.Machine.execUnknown6 b0 r s
  | .unknown7 b0 r => Sys2Proof.Machine.execUnknown7 b0 r s
  | .unknown8 b0 r => Sys2Proof.Machine.execUnknown8 b0 r s

end Sys2Proof.Machine
end

