-- ==== Sys2Proof/Machine/Sequencer.lean ====
section
/-!
DEFINITION. The sequencer as single steps (R210), the HOST port's requests, and the whole step of the machine.
-/

namespace Sys2Proof.Machine

/-! ### The rows of the step table -/

/-- S1, S9, S16, S19: the host writes CR0 in IDLE. -/
def issueStep (c : Command) (s : State) : State :=
  if c.op = 0x01 then { startAlign (issue c s) with phase := .alignTx }
  else if reservedOp c.op then report false .illegalOp (issue c s)
  else if c.op = 0x06 then { issue c s with phase := .msgRx }
  else { issue c s with phase := .cmdTx }

/-- S2: the probe is written, the attempt counted, the wait armed. -/
def alignTxStep (s : State) : Host.Outcome State Fault Refusal :=
  onNext (fun t => { armWait probeReply (countAttempt t) with phase := .alignRx }) (exec .probe s)

/-- S3 to S8: one read of an attempt's wait. -/
def alignRxStep (s : State) : State :=
  match turnVerdict s.cfg.alignWaitFrames s with
  | none => waitTurn s
  | some .matched => alignSuccess (waitTurn s)
  | some .empty | some .exhausted =>
    if s.att.toNat = maxAlignAttempts then alignFailure (waitTurn s) else { waitTurn s with phase := .alignTx }

/-- What follows the write of a command frame: S10 where an acknowledgement is awaited, else S11. -/
def afterCommandWrite (s : State) : State :=
  if awaitsAck s.cmd then { armWait (encReset s.cmd.arg) s with phase := .ackRx } else report true .none s

/-- S10, S11: the frame of the operation in the latch is written. -/
def cmdTxStep (s : State) : Host.Outcome State Fault Refusal :=
  match latchFrame s.cmd with
  | some i => onNext afterCommandWrite (exec i s)
  | none => .refused .noFrameForLatch

/-- S12 to S15: one read of the acknowledgement wait. -/
def ackRxStep (s : State) : State :=
  match turnVerdict maxWaitFrames s with
  | none => waitTurn s
  | some w => reportAck (w, waitTurn s)

/-- S17, S18: the one read of RDMSG; a full answer is decoded and its class returned. -/
def msgRxStep (s : State) : Host.Outcome State Fault Refusal :=
  match nextAnswer s with
  | .full f => onNext (report true .none) (exec (decodeInbound f) (rxRead s))
  | .empty | .short1 _ | .short2 _ _ | .short3 _ _ _ | .short4 _ _ _ _ =>
    .next (report false .none (clearEvent (rxRead s)))

/-- One step of the sequencer: the transaction its phase enables (R213); in IDLE it waits for a command (R301). -/
def sequence (s : State) : Host.Outcome State Fault Refusal :=
  match s.phase with
  | .idle => .next s
  | .alignTx => alignTxStep s
  | .alignRx => .next (alignRxStep s)
  | .cmdTx => cmdTxStep s
  | .ackRx => .next (ackRxStep s)
  | .msgRx => msgRxStep s

/-! ### The HOST port -/

/-- The instruction a command word is. -/
def decodeHostWord (w : BitVec 56) : Instr := decodeCommand (Command.ofBits w)

/-- A blocking call: while another operation is in progress the host waits (R312) and the sequencer goes on; else the
operation is run from issue to report, which the host's side sees as one (R240). -/
def hostCall (w : BitVec 56) (rest : List HostReq) (s : State) : Host.Outcome State Fault Refusal :=
  if s.busy then sequence s else exec (decodeHostWord w) { s with host := rest }

/-- A bare write of a control register: CR0 issues a command, refused while `BUSY == 1`; the others are read-only or do
not exist (R23, R51, R73). -/
def hostWrite (cr : Nat) (w : BitVec 56) (s : State) : Host.Outcome State Fault Refusal :=
  if cr = 0 then
    if s.busy then .refused .commandWhileBusy else .next (issueStep (Command.ofBits w) s)
  else if cr ≤ 4 then .refused (.writeOfReadOnlyRegister cr)
  else .refused (.noSuchRegister cr)

/-- A read of a control register: its value is delivered at the HOST port, the block is untouched (R51). -/
def hostRead (cr : Nat) (s : State) : Host.Outcome State Fault Refusal :=
  match readCr cr s with
  | .ok v => .next { s with hostOut := some v }
  | .error r => .refused r

/-! ### The whole step -/

/-- One step of the machine: what the outside does at the HOST port first, else the sequencer's transaction. -/
def machineStep (s : State) : Host.Outcome State Fault Refusal :=
  match s.host with
  | [] => sequence s
  | .call w :: rest => hostCall w rest s
  | .write cr w :: rest => hostWrite cr w { s with host := rest }
  | .read cr :: rest => hostRead cr { s with host := rest }
  | .reset :: rest => .next (platformReset { s with host := rest })
  | .pass :: rest => sequence { s with host := rest }

/-! ### Placing a table word where the next step takes its instruction -/

/-- A frame in place of the answer to RDMSG's read: RDMSG is in progress and about to read it. -/
def placeInbound (f : Frame) (s : State) : State :=
  { s with cmd := ⟨0x06, 0, 0, 0⟩, busy := true, phase := .msgRx, rx := .full f :: s.rx, host := .pass :: s.host }

/-- The probe: ALIGN is in progress and about to write it. -/
def placeProbe (s : State) : State :=
  { s with cmd := ⟨0x01, 0, 0, 0⟩, busy := true, phase := .alignTx, host := .pass :: s.host }

/-- A command word: the host's next request, in IDLE. -/
def placeCommand (w : Nat) (s : State) : State :=
  { s with busy := false, phase := .idle, host := .call (BitVec.ofNat 56 w) :: s.host }

/-- The word placed at the port its width belongs to; a word that is no instruction there places nothing. -/
def placeWord (s : State) (nbits w : Nat) : State :=
  match portOfWidth nbits with
  | some .host => placeCommand w s
  | some .tx => if wordBytes 6 w = probeBytes then placeProbe s else s
  | some .rx =>
    match wordBytes 5 w with
    | [b0, b1, b2, b3, b4] => placeInbound ⟨b0, b1, b2, b3, b4⟩ s
    | _ => s
  | none => s

end Sys2Proof.Machine
end

