-- ==== Sys2Proof/Machine/Step.lean ====
section
/-!
DEFINITION. The step of the machine, and where a table word is placed for it.
-/

namespace Sys2Proof.Machine

/-- One step (R210, R240, R51, R300). -/
def step (s : State) : Host.Outcome State Fault Refusal := machineStep s

/-- The state with a table word where the next step takes its instruction (notes/assumptions/2.md and 3.md). -/
def State.withFetchWord (s : State) (nbits w : Nat) : State := placeWord s nbits w

end Sys2Proof.Machine
end

