-- ==== Sys2Proof/Machine/Clock.lean ====
section
/-!
DEFINITION. The clock model: two pure conversions, done on the host side, never by LSYNC (R190 to R195).
-/

namespace Sys2Proof.Machine

/-- `ticks_to_seconds(t) = t / TICK_RATE`, the exact rational quotient (R191). -/
def ticksToSeconds (cfg : Config) (t : Tick) : Rat := (t.toNat : Rat) / (cfg.tickRate : Rat)

/-- Rounding to the nearest integer; an exact tie goes as ROUND_TIES says (R192). -/
def roundNearest (ties : RoundTies) (y : Rat) : Int :=
  if y - ⌊y⌋ < 1 / 2 then ⌊y⌋
  else if 1 / 2 < y - ⌊y⌋ then ⌊y⌋ + 1
  else
    match ties with
    | .halfUp => ⌊y⌋ + 1
    | .halfEven => if ⌊y⌋ % 2 = 0 then ⌊y⌋ else ⌊y⌋ + 1

/-- `seconds_to_ticks(x) = round(x * TICK_RATE) mod 2^32`, silent wrap-around; a negative `x` is outside the domain
(R192, 93_implementation_defined.md U15). -/
def secondsToTicks (cfg : Config) (x : Rat) : Option Tick :=
  if x < 0 then none else some (BitVec.ofInt 32 (roundNearest cfg.roundTies (x * (cfg.tickRate : Rat))))

/-- The `time` of an event, from the same tick field for all the tick-carrying classes; not computed by LSYNC (R152). -/
def Event.time? (cfg : Config) : Event → Option Rat
  | .clockHeartbeat tick | .input _ _ tick | .scheduledOutput _ tick => some (ticksToSeconds cfg tick)
  | .portsSet _ _ | .portBSet _ | .resetEcho _ | .unknown _ => none

end Sys2Proof.Machine
end

