-- ==== Sys2Proof/Machine/Assembler.lean ====
section
/-!
DEFINITION. Host programs: the operations and pseudo-instructions of the textual form (R120, R121), and the text itself.
-/

namespace Sys2Proof.Machine

/-- One line of a host program: the operations of R120, then the pseudo-instructions of R121. -/
inductive Asm where
  | align
  | rstclk (ack : Tick)
  | setp (pa pb : Byte)
  | setpb (pb : Byte)
  | sched (pa : Byte) (tick : Tick)
  | rdmsg
  /-- `.word w`: a word written to CR0 as it stands. -/
  | word (w : BitVec 56)
  /-- OPEN expands to ALIGN. -/
  | openLink
  /-- `SCHEDS pa, seconds` expands to SCHED with the converted tick. -/
  | scheds (pa : Byte) (seconds : Rat)
  /-- `CANCEL pa, pb` expands to SETP. -/
  | cancel (pa pb : Byte)
  deriving DecidableEq, Repr

/-- The `PA` field of an assembled word: the low 5 bits of the operand are used, the ignored `PA[7:5]` are written as 0
(R102, R120). -/
def portAField (pa : Byte) : Byte := pa &&& 0x1F

/-- The HC word of a line, ignored bits zero (R120, R121); `none` for a seconds value outside the domain of the
conversion (93_implementation_defined.md U15). -/
def assemble (cfg : Config) : Asm → Option (BitVec 56)
  | .align | .openLink => some (Command.toBits ⟨0x01, 0, 0, 0⟩)
  | .rstclk ack => some (Command.toBits ⟨0x02, 0, 0, ack⟩)
  | .setp pa pb | .cancel pa pb => some (Command.toBits ⟨0x03, portAField pa, pb, 0⟩)
  | .setpb pb => some (Command.toBits ⟨0x04, 0, pb, 0⟩)
  | .sched pa tick => some (Command.toBits ⟨0x05, portAField pa, 0, tick⟩)
  | .scheds pa seconds => (secondsToTicks cfg seconds).map fun t => Command.toBits ⟨0x05, portAField pa, 0, t⟩
  | .rdmsg => some (Command.toBits ⟨0x06, 0, 0, 0⟩)
  | .word w => some w

/-! ### The text -/

/-- A line cut into words: blanks, commas and the brackets of the call form separate, `;` starts a comment (R120). -/
def tokens : List Char → List Char → List (List Char)
  | [], cur => if cur.isEmpty then [] else [cur.reverse]
  | c :: cs, cur =>
    if c = ';' then if cur.isEmpty then [] else [cur.reverse]
    else if c = ' ' ∨ c = '\t' ∨ c = ',' ∨ c = '(' ∨ c = ')' then
      if cur.isEmpty then tokens cs [] else cur.reverse :: tokens cs []
    else tokens cs (c :: cur)

/-- The value of a digit in base 16 or less. -/
def digit? (base : Nat) (c : Char) : Option Nat :=
  let n := c.toNat
  let v := if 48 ≤ n ∧ n ≤ 57 then n - 48
    else if 65 ≤ n ∧ n ≤ 70 then n - 55
    else if 97 ≤ n ∧ n ≤ 102 then n - 87
    else base
  if v < base then some v else none

/-- The value of a string of digits, going on from `acc`. -/
def digits? (base : Nat) : List Char → Nat → Option Nat
  | [], acc => some acc
  | c :: cs, acc => (digit? base c).bind fun v => digits? base cs (acc * base + v)

/-- A number, decimal or `0x` hexadecimal (R120). -/
def number? : List Char → Option Nat
  | [] => none
  | '0' :: 'x' :: c :: cs => digits? 16 (c :: cs) 0
  | cs => digits? 10 cs 0

/-- An operand of `w` bits: a number below `2^w`. -/
def operand? (w : Nat) (cs : List Char) : Option (BitVec w) :=
  (number? cs).bind fun n => if n < 2 ^ w then some (BitVec.ofNat w n) else none

/-- The digits after a decimal point, as a fraction. -/
def fraction? (cs : List Char) : Option Rat :=
  (digits? 10 cs 0).map fun n => (n : Rat) / ((10 ^ cs.length : Nat) : Rat)

/-- A number of seconds: decimal digits, a point and more digits if there is one, a sign if there is one (R121). -/
def seconds? (cs : List Char) : Option Rat :=
  match cs with
  | [] => none
  | '-' :: d :: ds => (seconds0? (d :: ds)).map fun x => -x
  | ds => seconds0? ds
where
  /-- The unsigned part. -/
  seconds0? (ds : List Char) : Option Rat :=
    match ds.span (· ≠ '.') with
    | ([], _) => none
    | (whole, []) => (digits? 10 whole 0).map fun n => (n : Rat)
    | (whole, [_]) => (digits? 10 whole 0).map fun n => (n : Rat)
    | (whole, _ :: frac) => (digits? 10 whole 0).bind fun n => (fraction? frac).map fun f => (n : Rat) + f

/-- A line's words read as an operation, a pseudo-instruction or one of the document's call names (R120, R121);
operands that are no number of the field's width are rejected. -/
def parseLine (ts : List (List Char)) : Option Asm :=
  match ts with
  | [m] =>
    if m = "ALIGN".toList then some .align
    else if m = "OPEN".toList then some .openLink
    else if m = "RDMSG".toList ∨ m = "readMsg".toList then some .rdmsg
    else none
  | [m, x] =>
    if m = "RSTCLK".toList ∨ m = "resetClock".toList then (operand? 32 x).map .rstclk
    else if m = "SETPB".toList ∨ m = "setPortB".toList then (operand? 8 x).map .setpb
    else if m = ".word".toList then (operand? 56 x).map .word
    else none
  | [m, x, y] =>
    if m = "SETP".toList ∨ m = "setPorts".toList then (operand? 8 x).bind fun a => (operand? 8 y).map (.setp a)
    else if m = "SCHED".toList ∨ m = "schedulePortA".toList then
      (operand? 8 x).bind fun a => (operand? 32 y).map (.sched a)
    else if m = "SCHEDS".toList then (operand? 8 x).bind fun a => (seconds? y).map (.scheds a)
    else if m = "CANCEL".toList then (operand? 8 x).bind fun a => (operand? 8 y).map (.cancel a)
    else none
  | _ => none

/-- One line of text to at most one word; `none` where the line is rejected. -/
def assembleLine (cfg : Config) (line : List Char) : Option (List (BitVec 56)) :=
  match tokens line [] with
  | [] => some []
  | ts => (parseLine ts).bind fun a => (assemble cfg a).map fun w => [w]

/-- An assembled program: the list of its HC words (R120). -/
def assembleProgram (cfg : Config) : List (List Char) → Option (List (BitVec 56))
  | [] => some []
  | l :: ls => (assembleLine cfg l).bind fun ws => (assembleProgram cfg ls).map fun rest => ws ++ rest

/-- A host program runs as blocking calls in order, each after the previous has reported (R211). -/
def hostProgram (ws : List (BitVec 56)) : List HostReq := ws.map .call

end Sys2Proof.Machine
end

