-- ==== Sys2Proof/Machine/Peer.lean ====
section
/-!
DEFINITION. The peer contract (R80 to R88): what the document says a well-behaved device sends. It is no part of the
machine: the environment may answer any read with anything (R64), and a claim that needs a peer which keeps the
contract takes these as hypotheses. What the contract leaves open and these predicates settle is
notes/assumptions/22.md.
-/

namespace Sys2Proof.Machine.Peer

/-- The reply an aligned device owes to a byte string LSYNC wrote: the probe reply (R80); the identical 5 bytes to a
reset command with a nonzero value (R81). `none` where the document asks for no reply. -/
def owed (written : List Byte) : Option Frame :=
  if written = probeBytes then some probeReply
  else
    match decodeOutbound written with
    | .ok (.reset ack) => if ack = 0 then none else some (encReset ack)
    | .ok _ | .error _ => none

/-- May the device send `f` as the echo of what was written, at any later time or never: after a set-ports or
set-port-B command a frame that is read as its PortsSet or PortBSet event (R82). The bits of an echo the decoder ignores
(bytes 2 and 4, bits 6:5 of byte 3; bits 6:0 under PortBSet) are a draw of the device and are left free
(93_implementation_defined.md U12). DESIGN CHOICE (notes/assumptions/22.md): an echo shows the port values of the command
it echoes; R82 names the event's class only. -/
def mayEcho (written : List Byte) (f : Frame) : Bool :=
  match decodeOutbound written with
  | .ok (.setports a b) => decodeEvent f = .portsSet a b
  | .ok (.setportb b) => decodeEvent f = .portBSet b
  | .ok _ | .error _ => false

/-- A frame the device sends unasked: clock heartbeats and input edges, the two R86 names. DESIGN CHOICE
(notes/assumptions/22.md): a ScheduledOutput frame is not counted here; when the device sends one is open
(91_not_in_source.md N6), and it is admitted by `unplaced`. -/
def unsolicited (f : Frame) : Bool :=
  match decodeEvent f with
  | .clockHeartbeat _ | .input _ _ _ => true
  | .portsSet _ _ | .portBSet _ | .resetEcho _ | .scheduledOutput _ _ | .unknown _ => false

/-- A frame the device may send without the document saying when: a port echo, at any position
(93_implementation_defined.md U4), and a ScheduledOutput, on arming or on firing (91_not_in_source.md N6). -/
def unplaced (f : Frame) : Bool :=
  match decodeEvent f with
  | .portsSet _ _ | .portBSet _ | .scheduledOutput _ _ => true
  | .clockHeartbeat _ | .input _ _ _ | .resetEcho _ | .unknown _ => false

/-- What a device keeping the contract may put into the RX stream while a reply to `written` is awaited: full frames that
come unasked or at no stated time, then the reply it owes (R80, R81, R82, R86). The first frame with the reply's bytes is
the reply: a ScheduledOutput with the bytes of the probe reply cannot be told from it (R317). DESIGN CHOICE
(notes/assumptions/22.md): nothing else comes between, neither a ResetEcho of an earlier command nor an Unknown frame nor
a short or empty read. -/
def answersInTurn (written : List Byte) (answers : List RxAnswer) : Prop :=
  ∃ (fs : List Frame) (reply : Frame), owed written = some reply ∧
    (∀ f ∈ fs, (unsolicited f = true ∨ unplaced f = true) ∧ f ≠ reply) ∧ answers = fs.map .full ++ [.full reply]

end Sys2Proof.Machine.Peer
end

