-- ==== Sys2Proof/Safety.lean ====
section
/-!
DEFINITION. The terms claims are made in: what a wait does with a list of answers, which byte strings are lawful, when a
run has ended, the invariant of the machine.
-/

namespace Sys2Proof.Machine

/-! ### Answers to come -/

/-- The answers to the next `n` reads, whether scripted or empty because the script is exhausted (R64). -/
def upcoming (s : State) (n : Nat) : List RxAnswer := (List.range n).map fun k => s.rx.getD k .empty

/-- A read that is non-empty and no match: it is counted and discarded (R203, R210 "miss"). -/
def Miss (expect : Frame) (r : RxAnswer) : Prop := r ≠ .empty ∧ r ≠ .full expect

/-- The answers of a wait that returns MATCH: misses, fewer than the limit, then the expected frame (R208). -/
def MatchedWait (expect : Frame) (limit : Nat) (rs : List RxAnswer) : Prop :=
  ∃ ms, rs = ms ++ [.full expect] ∧ ms.length < limit ∧ ∀ r ∈ ms, Miss expect r

/-- The answers of a wait that returns EMPTY: misses, fewer than the limit, then an empty read (R208). -/
def EmptyWait (expect : Frame) (limit : Nat) (rs : List RxAnswer) : Prop :=
  ∃ ms, rs = ms ++ [.empty] ∧ ms.length < limit ∧ ∀ r ∈ ms, Miss expect r

/-- The answers of a wait that returns EXHAUSTED: as many misses as the limit allows (R208). -/
def ExhaustedWait (expect : Frame) (limit : Nat) (rs : List RxAnswer) : Prop :=
  rs.length = limit ∧ ∀ r ∈ rs, Miss expect r

/-- The answers of an alignment attempt that fails (R204). -/
def FailedAttempt (limit : Nat) (rs : List RxAnswer) : Prop :=
  EmptyWait probeReply limit rs ∨ ExhaustedWait probeReply limit rs

/-- How many of the answers are non-empty: what `CNT` counts (R29). -/
def nonEmptyReads (rs : List RxAnswer) : Nat := rs.countP (· ≠ .empty)

/-- What TRACE shows of a list of answered reads (R44). -/
def rxTrace (rs : List RxAnswer) : List TraceEvent := rs.map (.rx frameLen)

/-- The state after the next reads were answered with `rs`, and nothing else (R63). -/
def afterReads (rs : List RxAnswer) (s : State) : State :=
  { s with rx := s.rx.drop rs.length, trace := s.trace ++ rxTrace rs }

/-- What TRACE shows of alignment attempts, each a probe write and its answered reads (R204). -/
def attemptsTrace (blocks : List (List RxAnswer)) : List TraceEvent :=
  blocks.flatMap fun rs => .tx probeBytes :: rxTrace rs

/-- `n` probes on the TX stream. -/
def probes (n : Nat) : List Byte := (List.replicate n probeBytes).flatten

/-! ### Transactions -/

/-- The bytes the `Tx` events of a stretch of TRACE put on the TX stream. -/
def txBytes (tr : List TraceEvent) : List Byte :=
  tr.flatMap fun e =>
    match e with
    | .tx bs => bs
    | .rx _ _ | .ev _ _ => []

/-- How many writes a stretch of TRACE shows. -/
def txCount (tr : List TraceEvent) : Nat :=
  tr.countP fun e =>
    match e with
    | .tx _ => true
    | .rx _ _ | .ev _ _ => false

/-- How many reads a stretch of TRACE shows. -/
def rxCount (tr : List TraceEvent) : Nat :=
  tr.countP fun e =>
    match e with
    | .rx _ _ => true
    | .tx _ | .ev _ _ => false

/-- A byte string LSYNC may write: the probe or one of the four outbound patterns (R103). -/
def LawfulWrite (bs : List Byte) : Prop :=
  bs = probeBytes ∨ (∃ ack, bs = (encReset ack).bytes) ∨ (∃ a b, bs = (encSetPorts a b).bytes) ∨
    (∃ b, bs = (encSetPortB b).bytes) ∨ ∃ a at_, bs = (encSchedule a at_).bytes

/-- What may stand on TRACE: lawful writes, reads that ask for 5 bytes, events with the class of their frame (R44). -/
def LawfulEvent : TraceEvent → Prop
  | .tx bs => LawfulWrite bs
  | .rx n _ => n = frameLen
  | .ev tag raw => tag = (decodeEvent raw).tag

/-! ### Runs -/

/-- The host command rows: the instructions a host issues. -/
def IsHostOp (i : Instr) : Prop := i.port = .host

/-- An operation has reported: `PHASE == IDLE`, `BUSY == 0`, `DONE == 1` (R211, R240). -/
def Reported (s : State) : Prop := s.phase = .idle ∧ s.busy = false ∧ s.done = true

/-- The transactions an operation may need at most, one step for its issue included (R211). -/
def stepBound (s : State) : Nat := 1 + max 21 (maxAlignAttempts * (1 + s.cfg.alignWaitFrames))

/-- The host keeps the contract of the HOST port at this step: no command written while `BUSY == 1`, no access to a
register that is not there or not of that kind (R51, R73, R312). -/
def HostKeepsContract (s : State) : Prop :=
  ∀ q, s.host.head? = some q →
    match q with
    | .write cr _ => cr = 0 ∧ s.busy = false
    | .read cr => 1 ≤ cr ∧ cr ≤ 4
    | .call _ | .reset | .pass => True

/-! ### The invariant -/

/-- What the current phase says of the latch and the wait in progress (R27 to R30, R210). -/
def PhaseInv (s : State) : Prop :=
  match s.phase with
  | .idle => True
  | .alignTx => s.cmd.op = 0x01 ∧ s.align = .probing ∧ s.att.toNat < maxAlignAttempts
  | .alignRx => s.cmd.op = 0x01 ∧ s.align = .probing ∧ 1 ≤ s.att.toNat ∧ s.expect = probeReply ∧
      s.cnt.toNat < s.cfg.alignWaitFrames
  | .cmdTx => (latchFrame s.cmd).isSome = true
  | .ackRx => awaitsAck s.cmd = true ∧ s.expect = encReset s.cmd.arg ∧ s.cnt.toNat < maxWaitFrames
  | .msgRx => s.cmd.op = 0x06

/-- What the cause code says of the operation that reported it (R271). -/
def ErrInv (s : State) : Prop :=
  match s.err with
  | .none => True
  | .timeout | .exhausted => awaitsAck s.cmd = true ∧ s.ok = false
  | .alignFail => s.cmd.op = 0x01 ∧ s.ok = false ∧ s.align = .failed ∧ s.att.toNat = maxAlignAttempts
  | .illegalOp => reservedOp s.cmd.op = true ∧ s.ok = false

/-- The invariant of the machine: every step keeps it, and it holds after reset. -/
structure Inv (s : State) : Prop where
  /-- The configuration is in the ranges of R21. -/
  config : s.cfg.wf
  /-- `BUSY == 0` exactly in IDLE (R27). -/
  busy_iff : s.busy = true ↔ s.phase ≠ .idle
  /-- While an operation is in progress the result fields are clear (R25). -/
  busy_clear : s.busy = true → s.done = false ∧ s.ok = false ∧ s.err = .none
  /-- The phase fits the latch and the wait in progress. -/
  phase_fits : PhaseInv s
  /-- The cause code fits the operation. -/
  err_fits : ErrInv s
  /-- `OK == 0` with `ERR == 0` is reported for RDMSG only (R271). -/
  silent_failure : s.done = true → s.ok = false → s.err = .none → s.cmd.op = 0x06
  /-- `ATT` is 0 to 6 (R28). -/
  att_range : s.att.toNat ≤ maxAlignAttempts
  /-- `EXPECT` is the probe reply or a reset frame, and `CNT` is within the limit of that wait (R29, R30). -/
  wait_range : (s.expect = probeReply ∧ s.cnt.toNat ≤ s.cfg.alignWaitFrames) ∨
    (s.expect.b0 = 0x00 ∧ s.cnt.toNat ≤ maxWaitFrames)
  /-- `EVENT` is zero, or its tag is the class of its frame (R31). -/
  event_fits : s.event = EventReg.zero ∨ s.event.tag = (decodeEvent s.event.raw).tag
  /-- Everything on TRACE is lawful (R44, R103, R215). -/
  trace_lawful : ∀ e ∈ s.trace, LawfulEvent e
  /-- The TX stream ends with what TRACE shows as written since reset (R44, R62). -/
  tx_fits : ∃ before, s.tx = before ++ txBytes s.trace

end Sys2Proof.Machine
end

