-- ==== Sys2Proof/Certificates/Slice0/Obligations.lean ====
section
/-!
DEFINITION. The statements for the provers. Each docstring names the rules of spec/ the statement is about.
-/

open Sys2Proof Sys2Proof.Machine

/-! ### Encodings -/

/-- R11: `be32` splits a 32-bit value most significant byte first, `u32` weighs the first byte with 2^24, and joining
what was split gives the value back. -/
def Obligations.BigEndianSplitAndJoin : Prop :=
  (∀ v : Tick, be32 v = ⟨v.extractLsb 31 24, v.extractLsb 23 16, v.extractLsb 15 8, v.extractLsb 7 0⟩) ∧
  (∀ p : Payload,
    (u32 p).toNat = p.b1.toNat * 2 ^ 24 + p.b2.toNat * 2 ^ 16 + p.b3.toNat * 2 ^ 8 + p.b4.toNat) ∧
  ∀ v : Tick, u32 (be32 v) = v

/-- R101: the fields of the 56-bit command word stand where the layout says, and are the whole word. -/
def Obligations.CommandWordFields : Prop :=
  (∀ w : BitVec 56, (Command.ofBits w).op = w.extractLsb 55 48 ∧ (Command.ofBits w).pa = w.extractLsb 47 40 ∧
    (Command.ofBits w).pb = w.extractLsb 39 32 ∧ (Command.ofBits w).arg = w.extractLsb 31 0) ∧
  (∀ w : BitVec 56, (Command.ofBits w).toBits = w) ∧
  ∀ c : Command, Command.ofBits c.toBits = c

/-- R100, R101, R104, R105, R107: decoding the bytes of a well-formed instruction, at its port, gives it back, with
every operand at every value. -/
def Obligations.DecodeInvertsEncode : Prop :=
  ∀ i : Instr, i.wf = true → decode i.port (encode i) = .ok i

/-- R100, R101, R104, R105, R107: whatever decodes is well formed, belongs to that port, and encodes to the bytes it came
from, so that no bit is dropped and no two byte strings of a port share an instruction. -/
def Obligations.EncodeInvertsDecode : Prop :=
  ∀ (p : Port) (bs : List Byte) (i : Instr), decode p bs = .ok i → i.port = p ∧ i.wf = true ∧ encode i = bs

/-- The decoders read each row of spec/opcode_table.json off exactly the words its mask and pattern give it
(R101, R104, R107, R111, R149). -/
def Obligations.DecodersFollowTheOpcodeTable : Prop :=
  (∀ c : Command, ∀ row ∈ hostRows,
    (decodeCommand c).mnemonic = row.mnemonic ↔ c.toBits.toNat &&& row.mask = row.pattern) ∧
  (∀ f : Frame, ∀ row ∈ inboundRows,
    (decodeInbound f).mnemonic = row.mnemonic ↔ f.bits.toNat &&& row.mask = row.pattern) ∧
  ∀ f : Frame, ∀ row ∈ outboundRows, row.width = 40 →
    ((∃ i, decodeOutbound f.bytes = .ok i ∧ i.mnemonic = row.mnemonic) ↔ f.bits.toNat &&& row.mask = row.pattern)

/-- Words written out from the encodings of R101, R104, R105 and R107. -/
def Obligations.SpecWordsDecode : Prop :=
  decodeTableWord 56 0x01000000000000 = some (.align 0 0 0) ∧
  decodeTableWord 56 0x020000CAFEBEEF = some (.rstclk 0 0 0xCAFEBEEF) ∧
  decodeTableWord 56 0x031FFF00000000 = some (.setp 0x1F 0xFF 0) ∧
  decodeTableWord 56 0xFF123456789ABC = some (.reservedOp6 0xFF 0x12 0x34 0x56789ABC) ∧
  decode .tx [0x04, 0xFF, 0x00, 0x9F, 0x00] = .ok (.setports 0x1F 0xFF) ∧
  decodeTableWord 48 0x10E07F0F552A = some .probe ∧
  decodeTableWord 40 0x4F01020304 = some (.input2 7 1 0x01020304) ∧
  decodeTableWord 40 0x04AA55FF77 = some (.portsset 0xAA 0x55 3 0x1F 0x77)

/-- R140, R150, R109: at most one of the seven conditions on a frame holds, so the ordered tests and the map of byte 0
give the same class. -/
def Obligations.PriorityTestsEqualTheByteMap : Prop :=
  ∀ f : Frame,
    ([decide (f.b0 &&& 0xF0 = 0x10), decide (f.b0 &&& 0xF0 = 0x20), decide (f.b0 &&& 0xF0 = 0x40),
      decide (f.b0 &&& 0xF0 = 0x80), decide (f.b0 = 0x04), decide (f.b0 = 0x00),
      decide (f.b0 &&& 0xE0 = 0xE0)].count true ≤ 1) ∧
    (decodeEvent f).tag = classByMap f

/-- R109: of the 256 values of byte 0, 16 are heartbeats, 48 inputs, 1 a port echo, 1 a reset echo, 32 scheduled outputs,
158 Unknown, whichever way bit 7 of byte 3 stands. -/
def Obligations.ByteZeroClassCounts : Prop :=
  ∀ b3 ∈ [(0x00 : Byte), 0x80],
    [Tag.heartbeat, .input, .resetEcho, .schedOut, .unknown].map
      (fun t => (List.range 256).countP fun n => (decodeEvent ⟨BitVec.ofNat 8 n, 0, 0, b3, 0⟩).tag = t)
        = [16, 48, 1, 32, 158] ∧
    (List.range 256).countP (fun n => (decodeEvent ⟨BitVec.ofNat 8 n, 0, 0, b3, 0⟩).tag = .portsSet ∨
      (decodeEvent ⟨BitVec.ofNat 8 n, 0, 0, b3, 0⟩).tag = .portBSet) = 1

/-- R153: each outbound frame decodes to the event with the fields it was encoded from, Port A masked to 5 bits. -/
def Obligations.EncodedCommandsDecodeToTheirEvents : Prop :=
  (∀ ack, decodeEvent (encReset ack) = .resetEcho (be32 ack)) ∧
  (∀ a b, decodeEvent (encSetPorts a b) = .portsSet ((a &&& 0x1F).extractLsb' 0 5) b) ∧
  (∀ b, decodeEvent (encSetPortB b) = .portBSet b) ∧
  ∀ a at_, decodeEvent (encSchedule a at_) = .scheduledOutput ((a &&& 0x1F).extractLsb' 0 5) at_

/-- R175, R105, R317: the reply is the probe's last 5 bytes; read inbound it is a ScheduledOutput, and one schedule
command has the same bytes. -/
def Obligations.ProbeReplyIsAScheduleFrame : Prop :=
  probeBytes.length = probeLen ∧ probeReply.bytes = probeBytes.drop 1 ∧
  decodeEvent probeReply = .scheduledOutput 0 0x7F0F552A ∧ encSchedule 0 0x7F0F552A = probeReply

/-- R176, R110: byte 0 of a command frame is in none of the device's own classes and in none of the low Unknown
values. -/
def Obligations.OutboundByteZeroIsNeverADeviceClass : Prop :=
  ∀ (i : Instr) (f : Frame), i.port = .tx → i.frame? = some f →
    f.b0 >>> 4 ∉ [(0x1 : Byte), 0x2, 0x4, 0x8] ∧ ¬ (0x01 ≤ f.b0.toNat ∧ f.b0.toNat ≤ 0x03) ∧
    ¬ (0x05 ≤ f.b0.toNat ∧ f.b0.toNat ≤ 0x0F)

/-- R32, 93_implementation_defined.md U2: the views of an EVENT register that holds a decoded frame are the fields of the
event, and no view has a value under another tag; Port A has none under PORTBSET, EV_SUB none for channel 1; with TAG NONE
the register holds no event and no view has a value. That a view without meaning has no value is the model's reading
(notes/assumptions/19.md). -/
def Obligations.EventViewsAreTheEventFields : Prop :=
  (∀ f : Frame,
    let e : EventReg := ⟨(decodeEvent f).tag, f⟩
    e.event? = some (decodeEvent f) ∧
    match decodeEvent f with
    | .clockHeartbeat tick => e.tick? = some tick ∧ e.channel? = none ∧ e.subValid? = none ∧ e.sub? = none ∧
        e.portA? = none ∧ e.portB? = none ∧ e.payload? = none
    | .input ch sub tick => e.tick? = some tick ∧ e.channel? = some ch ∧ e.subValid? = some sub.isSome ∧
        e.sub? = sub ∧ e.portA? = none ∧ e.portB? = none ∧ e.payload? = none
    | .portsSet a b => e.portA? = some a ∧ e.portB? = some b ∧ e.tick? = none ∧ e.channel? = none ∧
        e.subValid? = none ∧ e.sub? = none ∧ e.payload? = none
    | .portBSet b => e.portB? = some b ∧ e.portA? = none ∧ e.tick? = none ∧ e.channel? = none ∧
        e.subValid? = none ∧ e.sub? = none ∧ e.payload? = none
    | .resetEcho p => e.payload? = some p ∧ e.tick? = none ∧ e.channel? = none ∧ e.subValid? = none ∧
        e.sub? = none ∧ e.portA? = none ∧ e.portB? = none
    | .scheduledOutput a tick => e.portA? = some a ∧ e.tick? = some tick ∧ e.channel? = none ∧ e.subValid? = none ∧
        e.sub? = none ∧ e.portB? = none ∧ e.payload? = none
    | .unknown raw => raw = f ∧ e.tick? = none ∧ e.channel? = none ∧ e.subValid? = none ∧ e.sub? = none ∧
        e.portA? = none ∧ e.portB? = none ∧ e.payload? = none) ∧
  ∀ raw : Frame,
    let e : EventReg := ⟨.none, raw⟩
    e.event? = none ∧ e.tick? = none ∧ e.channel? = none ∧ e.subValid? = none ∧ e.sub? = none ∧ e.portA? = none ∧
      e.portB? = none ∧ e.payload? = none

/-! ### Control registers -/

/-- R24, R26, R271: where the fields of STATUS stand, the codes of ERR and ALIGN, that reading it changes nothing in the
block, and that the host cannot write it. That the value read is held in `hostOut`, and that such a write is refused, are
the model's (notes/assumptions/9.md, 8.md). -/
def Obligations.StatusRegisterLayout : Prop :=
  (∀ s : State,
    s.statusBits.getLsbD 0 = s.busy ∧ s.statusBits.getLsbD 1 = s.done ∧ s.statusBits.getLsbD 2 = s.ok ∧
    s.statusBits.extractLsb 5 3 = s.err.code ∧ s.statusBits.extractLsb 7 6 = s.align.code ∧
    (∀ rest, s.host = .read 1 :: rest →
      step s = .next { s with host := rest, hostOut := some (s.statusBits.setWidth 56) }) ∧
    ∀ rest w, s.host = .write 1 w :: rest → step s = .refused (.writeOfReadOnlyRegister 1)) ∧
  [ErrCode.none, .timeout, .exhausted, .alignFail, .illegalOp].map ErrCode.code = [0, 1, 2, 3, 4] ∧
  [AlignState.probing, .aligned, .failed].map AlignState.code = [0, 1, 2]

/-- R27: where the fields of SEQ stand, bits 15:11 zero, the phase codes, and that reading it changes nothing in the
block (the value read is held in `hostOut`, the model's, notes/assumptions/9.md). -/
def Obligations.SequencerRegisterLayout : Prop :=
  (∀ s : State,
    s.seqBits.extractLsb 2 0 = s.phase.code ∧ s.seqBits.extractLsb 5 3 = s.att ∧ s.seqBits.extractLsb 10 6 = s.cnt ∧
    s.seqBits.extractLsb 15 11 = 0 ∧
    ∀ rest, s.host = .read 2 :: rest →
      step s = .next { s with host := rest, hostOut := some (s.seqBits.setWidth 56) }) ∧
  [Phase.idle, .alignTx, .alignRx, .cmdTx, .ackRx, .msgRx].map Phase.code = [0, 1, 2, 3, 4, 5]

/-- R30, R31: where the five bytes of EXPECT stand; TAG and the five bytes of RAW in EVENT; the codes of TAG; reading
either changes nothing in the block (the value read is held in `hostOut`, the model's, notes/assumptions/9.md). -/
def Obligations.ExpectAndEventLayout : Prop :=
  (∀ s : State,
    s.expectBits.extractLsb 39 32 = s.expect.b0 ∧ s.expectBits.extractLsb 31 24 = s.expect.b1 ∧
    s.expectBits.extractLsb 23 16 = s.expect.b2 ∧ s.expectBits.extractLsb 15 8 = s.expect.b3 ∧
    s.expectBits.extractLsb 7 0 = s.expect.b4 ∧
    s.eventBits.extractLsb 43 40 = tagCode s.event.tag ∧ s.eventBits.extractLsb 39 32 = s.event.raw.b0 ∧
    s.eventBits.extractLsb 31 24 = s.event.raw.b1 ∧ s.eventBits.extractLsb 23 16 = s.event.raw.b2 ∧
    s.eventBits.extractLsb 15 8 = s.event.raw.b3 ∧ s.eventBits.extractLsb 7 0 = s.event.raw.b4 ∧
    (∀ rest, s.host = .read 3 :: rest →
      step s = .next { s with host := rest, hostOut := some (s.expectBits.setWidth 56) }) ∧
    ∀ rest, s.host = .read 4 :: rest →
      step s = .next { s with host := rest, hostOut := some (s.eventBits.setWidth 56) }) ∧
  [Tag.none, .heartbeat, .input, .portsSet, .portBSet, .resetEcho, .schedOut, .unknown].map tagCode =
    [0, 1, 2, 3, 4, 5, 6, 7]

/-- R23, R51, R73, 93_implementation_defined.md U1, U9, U16: what the host may not do at the HOST port is refused by
name. The refusal of a write of CR1 to CR4 is the model's choice (notes/assumptions/8.md). -/
def Obligations.HostMisuseIsRefused : Prop :=
  ∀ (s : State) (rest : List HostReq) (w : BitVec 56),
    (s.host = .write 0 w :: rest → s.busy = true → step s = .refused .commandWhileBusy) ∧
    (∀ cr, 1 ≤ cr → cr ≤ 4 → s.host = .write cr w :: rest → step s = .refused (.writeOfReadOnlyRegister cr)) ∧
    (∀ cr, 4 < cr → s.host = .write cr w :: rest → step s = .refused (.noSuchRegister cr)) ∧
    (s.host = .read 0 :: rest → step s = .refused .readOfCommandLatch) ∧
    ∀ cr, 4 < cr → s.host = .read cr :: rest → step s = .refused (.noSuchRegister cr)

/-- R240, 93_implementation_defined.md U1: no host operation has a meaning while another is in progress. -/
def Obligations.HostOperationsAreRefusedWhileBusy : Prop :=
  ∀ (i : Instr) (s : State), IsHostOp i → s.busy = true → exec i s = .refused .commandWhileBusy

/-! ### The host operations -/

/-- R243 to R245 and the zero form of R242: SETP, SETPB, SCHED and RSTCLK 0 write their frame, read nothing, and report
success; every other part of the state stays. -/
def Obligations.SendOperationsCompleteAtOnce : Prop :=
  ∀ (s : State) (pa pb : Byte) (arg : Tick), s.busy = false →
    exec (.setp pa pb arg) s = .next { s with
      cmd := ⟨0x03, pa, pb, arg⟩, busy := false, done := true, ok := true, err := .none, phase := .idle,
      tx := s.tx ++ [0x04, pb, 0x00, 0x80 ||| (pa &&& 0x1F), 0x00],
      trace := s.trace ++ [.tx [0x04, pb, 0x00, 0x80 ||| (pa &&& 0x1F), 0x00]] } ∧
    exec (.setpb pa pb arg) s = .next { s with
      cmd := ⟨0x04, pa, pb, arg⟩, busy := false, done := true, ok := true, err := .none, phase := .idle,
      tx := s.tx ++ [0x04, pb, 0x00, 0x00, 0x00],
      trace := s.trace ++ [.tx [0x04, pb, 0x00, 0x00, 0x00]] } ∧
    exec (.sched pa pb arg) s = .next { s with
      cmd := ⟨0x05, pa, pb, arg⟩, busy := false, done := true, ok := true, err := .none, phase := .idle,
      tx := s.tx ++ (0xE0 ||| (pa &&& 0x1F)) :: [(be32 arg).b1, (be32 arg).b2, (be32 arg).b3, (be32 arg).b4],
      trace := s.trace ++
        [.tx ((0xE0 ||| (pa &&& 0x1F)) :: [(be32 arg).b1, (be32 arg).b2, (be32 arg).b3, (be32 arg).b4])] } ∧
    exec (.rstclk pa pb 0) s = .next { s with
      cmd := ⟨0x02, pa, pb, 0⟩, busy := false, done := true, ok := true, err := .none, phase := .idle,
      tx := s.tx ++ [0x00, 0x00, 0x00, 0x00, 0x00],
      trace := s.trace ++ [.tx [0x00, 0x00, 0x00, 0x00, 0x00]] }

/-- R242, R203: RSTCLK with a nonzero value writes its frame, then reports the result of the wait for the identical 5
bytes: MATCH, EMPTY or EXHAUSTED; one of the three always applies. -/
def Obligations.RstclkReportsTheResultOfItsWait : Prop :=
  ∀ (s : State) (pa pb : Byte) (arg : Tick), s.busy = false → arg ≠ 0 →
    (∀ rs : List RxAnswer, upcoming s rs.length = rs →
      let waited (o : Bool) (e : ErrCode) : State := { s with
        cmd := ⟨0x02, pa, pb, arg⟩, busy := false, done := true, ok := o, err := e, phase := .idle,
        expect := encReset arg, cnt := BitVec.ofNat 5 (nonEmptyReads rs), rx := s.rx.drop rs.length,
        tx := s.tx ++ (encReset arg).bytes, trace := s.trace ++ .tx (encReset arg).bytes :: rxTrace rs }
      (MatchedWait (encReset arg) 20 rs → exec (.rstclk pa pb arg) s = .next (waited true .none)) ∧
      (EmptyWait (encReset arg) 20 rs → exec (.rstclk pa pb arg) s = .next (waited false .timeout)) ∧
      (ExhaustedWait (encReset arg) 20 rs → exec (.rstclk pa pb arg) s = .next (waited false .exhausted))) ∧
    ∃ rs, upcoming s rs.length = rs ∧ (MatchedWait (encReset arg) 20 rs ∨ EmptyWait (encReset arg) 20 rs ∨
      ExhaustedWait (encReset arg) 20 rs)

/-- R208: what the bounded wait returns, after how many reads, and with what count; one of the three cases always
applies, and only one can. -/
def Obligations.BoundedWaitReturns : Prop :=
  ∀ (s : State) (expect : Frame) (limit : Nat), 1 ≤ limit → limit ≤ 31 →
    (∃ rs, upcoming s rs.length = rs ∧ 1 ≤ rs.length ∧ rs.length ≤ limit ∧
      (MatchedWait expect limit rs ∨ EmptyWait expect limit rs ∨ ExhaustedWait expect limit rs)) ∧
    ∀ rs : List RxAnswer, upcoming s rs.length = rs →
      (MatchedWait expect limit rs → waitReply expect limit s = (.matched, { afterReads rs s with
        expect := expect, cnt := BitVec.ofNat 5 rs.length })) ∧
      (EmptyWait expect limit rs → waitReply expect limit s = (.empty, { afterReads rs s with
        expect := expect, cnt := BitVec.ofNat 5 (rs.length - 1) })) ∧
      (ExhaustedWait expect limit rs → waitReply expect limit s = (.exhausted, { afterReads rs s with
        expect := expect, cnt := BitVec.ofNat 5 limit }))

/-- R204, R209, R241: where the answers make fewer than 6 attempts fail and the next one match, ALIGN succeeds on that
attempt, for every ALIGN_WAIT_FRAMES. -/
def Obligations.AlignSucceedsOnTheMatchingAttempt : Prop :=
  ∀ (s : State) (pa pb : Byte) (arg : Tick) (fails : List (List RxAnswer)) (last : List RxAnswer),
    s.busy = false → s.cfg.wf → fails.length < 6 →
    (∀ b ∈ fails, FailedAttempt s.cfg.alignWaitFrames b) → MatchedWait probeReply s.cfg.alignWaitFrames last →
    upcoming s (fails.flatten ++ last).length = fails.flatten ++ last →
    exec (.align pa pb arg) s = .next { s with
      cmd := ⟨0x01, pa, pb, arg⟩, busy := false, done := true, ok := true, err := .none, align := .aligned,
      phase := .idle, att := BitVec.ofNat 3 (fails.length + 1), cnt := BitVec.ofNat 5 last.length,
      expect := probeReply, rx := s.rx.drop (fails.flatten ++ last).length, tx := s.tx ++ probes (fails.length + 1),
      trace := s.trace ++ attemptsTrace (fails ++ [last]) }

/-- R204, R209, R241, R274: where the answers make 6 attempts fail, ALIGN writes the probe exactly 6 times and reports
ALIGN_FAIL. -/
def Obligations.AlignFailsAfterSixAttempts : Prop :=
  ∀ (s : State) (pa pb : Byte) (arg : Tick) (fails : List (List RxAnswer)),
    s.busy = false → s.cfg.wf → fails.length = 6 → (∀ b ∈ fails, FailedAttempt s.cfg.alignWaitFrames b) →
    upcoming s fails.flatten.length = fails.flatten →
    exec (.align pa pb arg) s = .next { s with
      cmd := ⟨0x01, pa, pb, arg⟩, busy := false, done := true, ok := false, err := .alignFail, align := .failed,
      phase := .idle, att := 6, cnt := BitVec.ofNat 5 (nonEmptyReads (fails.getLastD [])),
      expect := probeReply, rx := s.rx.drop fails.flatten.length, tx := s.tx ++ probes 6,
      trace := s.trace ++ attemptsTrace fails }

/-- R209, R241: from every state without an operation in progress, whatever the environment answers, ALIGN ends: 1 to 6
probes are written and counted, 1 to 6 * ALIGN_WAIT_FRAMES reads are made, and it reports success with ALIGNED or
ALIGN_FAIL with FAILED after 6 attempts. -/
def Obligations.AlignAlwaysEnds : Prop :=
  ∀ (s : State) (pa pb : Byte) (arg : Tick), s.busy = false → s.cfg.wf →
    ∃ (t : State) (new : List TraceEvent), exec (.align pa pb arg) s = .next t ∧ t.trace = s.trace ++ new ∧
      1 ≤ txCount new ∧ txCount new ≤ 6 ∧ t.att.toNat = txCount new ∧ t.tx = s.tx ++ probes (txCount new) ∧
      1 ≤ rxCount new ∧ rxCount new ≤ 6 * s.cfg.alignWaitFrames ∧ t.rx = s.rx.drop (rxCount new) ∧ Reported t ∧
      ((t.ok = true ∧ t.err = .none ∧ t.align = .aligned) ∨
        (t.ok = false ∧ t.err = .alignFail ∧ t.align = .failed ∧ t.att = 6))

/-- R246, R206: RDMSG makes exactly one read; a full read loads EVENT with the frame and its class, and reports 1; a
short or an empty read clears EVENT and reports 0 with no error; nothing else changes. -/
def Obligations.RdmsgReturnsTheNextFrameOrNothing : Prop :=
  ∀ (s : State) (pa pb : Byte) (arg : Tick), s.busy = false →
    (∀ f, nextAnswer s = .full f → exec (.rdmsg pa pb arg) s = .next { s with
      cmd := ⟨0x06, pa, pb, arg⟩, busy := false, done := true, ok := true, err := .none, phase := .idle,
      event := ⟨(decodeEvent f).tag, f⟩, rx := s.rx.tail,
      trace := s.trace ++ [.rx 5 (.full f), .ev (decodeEvent f).tag f] }) ∧
    ((∀ f, nextAnswer s ≠ .full f) → exec (.rdmsg pa pb arg) s = .next { s with
      cmd := ⟨0x06, pa, pb, arg⟩, busy := false, done := true, ok := false, err := .none, phase := .idle,
      event := EventReg.zero, rx := s.rx.tail, trace := s.trace ++ [.rx 5 (nextAnswer s)] })

/-- R247: a command word with a reserved operation code reports ILLEGAL_OP; nothing is written, nothing is read, the phase
stays IDLE, nothing else changes. -/
def Obligations.ReservedCodesReportIllegalOp : Prop :=
  ∀ (s : State) (w : BitVec 56), s.busy = false → s.phase = .idle →
    (w.extractLsb 55 48 = 0x00 ∨ 0x07 ≤ (w.extractLsb 55 48).toNat) →
    exec (decodeHostWord w) s = .next { s with
      cmd := Command.ofBits w, done := true, ok := false, err := .illegalOp }

/-- R247: each of the seven reserved rows completes so. -/
def Obligations.ReservedRowsComplete : Prop :=
  ∀ (s : State) (op pa pb : Byte) (arg : Tick), s.busy = false →
    let illegal (c : Command) : State := { s with
      cmd := c, busy := false, done := true, ok := false, err := .illegalOp, phase := .idle }
    exec (.reservedOp0 pa pb arg) s = .next (illegal ⟨0x00, pa, pb, arg⟩) ∧
    exec (.reservedOp1 pa pb arg) s = .next (illegal ⟨0x07, pa, pb, arg⟩) ∧
    exec (.reservedOp2 op pa pb arg) s = .next (illegal ⟨op, pa, pb, arg⟩) ∧
    exec (.reservedOp3 op pa pb arg) s = .next (illegal ⟨op, pa, pb, arg⟩) ∧
    exec (.reservedOp4 op pa pb arg) s = .next (illegal ⟨op, pa, pb, arg⟩) ∧
    exec (.reservedOp5 op pa pb arg) s = .next (illegal ⟨op, pa, pb, arg⟩) ∧
    exec (.reservedOp6 op pa pb arg) s = .next (illegal ⟨op, pa, pb, arg⟩)

/-- R276, R271, R240: every well-formed host operation that runs ends reported; `OK == 1` comes with `ERR == 0`, an `OK == 0` without
a cause code comes from RDMSG only, and each cause code comes from its operation only. -/
def Obligations.OperationsEndReported : Prop :=
  ∀ (i : Instr) (s t : State), IsHostOp i → i.wf = true → s.cfg.wf → exec i s = .next t →
    Reported t ∧ some t.cmd = i.command? ∧ (t.ok = true → t.err = .none) ∧
    (t.ok = false → t.err = .none → t.cmd.op = 0x06) ∧
    (t.err = .timeout ∨ t.err = .exhausted → t.cmd.op = 0x02 ∧ t.cmd.arg ≠ 0) ∧
    (t.err = .alignFail → t.cmd.op = 0x01 ∧ t.align = .failed ∧ t.att = 6) ∧
    (t.err = .illegalOp → reservedOp t.cmd.op = true)

/-- R51, R33: the frame of the host operations. ALIGN leaves EVENT; RSTCLK leaves EVENT, ALIGN and ATT, and without a
wait EXPECT and CNT; SETP, SETPB, SCHED leave EVENT, ALIGN, ATT, CNT, EXPECT and the RX stream; RDMSG leaves ALIGN, ATT,
CNT, EXPECT and the TX stream; a reserved code leaves all of them. The configuration and the HOST port's lists are left
by every one. -/
def Obligations.HostOperationFrames : Prop :=
  ∀ (i : Instr) (s t : State), IsHostOp i → exec i s = .next t →
    t.cfg = s.cfg ∧ t.host = s.host ∧ t.hostOut = s.hostOut ∧
    match i with
    | .align _ _ _ => t.event = s.event
    | .rstclk _ _ arg => t.event = s.event ∧ t.align = s.align ∧ t.att = s.att ∧
        (arg = 0 → t.expect = s.expect ∧ t.cnt = s.cnt ∧ t.rx = s.rx)
    | .setp _ _ _ | .setpb _ _ _ | .sched _ _ _ => t.event = s.event ∧ t.align = s.align ∧ t.att = s.att ∧
        t.cnt = s.cnt ∧ t.expect = s.expect ∧ t.rx = s.rx
    | .rdmsg _ _ _ => t.align = s.align ∧ t.att = s.att ∧ t.cnt = s.cnt ∧ t.expect = s.expect ∧ t.tx = s.tx
    | _ => t.event = s.event ∧ t.align = s.align ∧ t.att = s.att ∧ t.cnt = s.cnt ∧ t.expect = s.expect ∧
        t.rx = s.rx ∧ t.tx = s.tx ∧ t.trace = s.trace

/-- R211: how many transactions each host operation makes. -/
def Obligations.TransactionBounds : Prop :=
  ∀ (i : Instr) (s t : State), IsHostOp i → s.cfg.wf → exec i s = .next t →
    ∃ new, t.trace = s.trace ++ new ∧
      match i with
      | .align _ _ _ => txCount new ≤ 6 ∧ rxCount new ≤ 6 * s.cfg.alignWaitFrames
      | .rstclk _ _ arg => txCount new = 1 ∧ rxCount new ≤ 20 ∧ (arg = 0 → rxCount new = 0)
      | .setp _ _ _ | .setpb _ _ _ | .sched _ _ _ => txCount new = 1 ∧ rxCount new = 0
      | .rdmsg _ _ _ => txCount new = 0 ∧ rxCount new = 1
      | _ => new = []

/-- R248, R214: what an operation writes, reads and reports does not depend on the alignment state, on EVENT or on
anything an earlier operation left: only on the configuration and the answers. -/
def Obligations.OperationsIgnoreAlignmentAndHistory : Prop :=
  ∀ (i : Instr) (s s' : State), IsHostOp i → s.busy = false → s'.busy = false → s'.cfg = s.cfg → s'.rx = s.rx →
    ∃ (t t' : State) (out : List Byte) (new : List TraceEvent),
      exec i s = .next t ∧ exec i s' = .next t' ∧ t.ok = t'.ok ∧ t.err = t'.err ∧ t.rx = t'.rx ∧
      t.tx = s.tx ++ out ∧ t'.tx = s'.tx ++ out ∧ t.trace = s.trace ++ new ∧ t'.trace = s'.trace ++ new

/-- R68, R35, R273: the bytes of a short read are gone: the next RDMSG decodes the next answer on its own, whatever the
short read held. -/
def Obligations.TornFrameIsNeverStitched : Prop :=
  ∀ (s : State) (torn : RxAnswer) (f : Frame) (rest : List RxAnswer),
    s.busy = false → (∀ g, torn ≠ .full g) → s.rx = torn :: .full f :: rest →
    ∃ t u, exec (.rdmsg 0 0 0) s = .next t ∧ t.ok = false ∧ t.err = .none ∧ t.event = EventReg.zero ∧
      exec (.rdmsg 0 0 0) t = .next u ∧ u.ok = true ∧ u.event = ⟨(decodeEvent f).tag, f⟩ ∧ u.rx = rest

/-- R80, R81, R82, R86, under the peer contract: a device that sends only heartbeats, inputs, port echoes and scheduled
outputs before the reply it owes gets RSTCLK acknowledged and ALIGN aligned on the first attempt, as long as the reply comes
within the wait's limit. What the contract lets come before the reply is the model's choice (notes/assumptions/22.md). -/
def Obligations.ContractKeepingPeerIsAcknowledged : Prop :=
  ∀ (s : State) (pa pb : Byte) (arg : Tick) (answers : List RxAnswer),
    s.busy = false → s.cfg.wf → upcoming s answers.length = answers →
    (arg ≠ 0 → Peer.answersInTurn (encReset arg).bytes answers → answers.length ≤ 20 →
      ∃ t, exec (.rstclk pa pb arg) s = .next t ∧ t.ok = true ∧ t.err = .none ∧ t.cnt.toNat = answers.length) ∧
    (Peer.answersInTurn probeBytes answers → answers.length ≤ s.cfg.alignWaitFrames →
      ∃ t, exec (.align pa pb arg) s = .next t ∧ t.ok = true ∧ t.align = .aligned ∧ t.att = 1 ∧
        t.cnt.toNat = answers.length)

/-! ### The frames -/

/-- R171 to R175, R62, R201: each outbound row writes its bytes in one write and does nothing else, in every state.
That a row's meaning is its write alone is notes/assumptions/18.md. -/
def Obligations.OutboundRowsWriteTheirBytes : Prop :=
  ∀ (s : State) (ack at_ : Tick) (a : BitVec 5) (b : Byte),
    let wrote (bs : List Byte) : State := { s with tx := s.tx ++ bs, trace := s.trace ++ [.tx bs] }
    exec (.reset ack) s = .next (wrote [0x00, (be32 ack).b1, (be32 ack).b2, (be32 ack).b3, (be32 ack).b4]) ∧
    exec (.setports a b) s = .next (wrote [0x04, b, 0x00, 0x4#3 ++ a, 0x00]) ∧
    exec (.setportb b) s = .next (wrote [0x04, b, 0x00, 0x00, 0x00]) ∧
    exec (.schedule a at_) s = .next (wrote [0x7#3 ++ a, (be32 at_).b1, (be32 at_).b2, (be32 at_).b3, (be32 at_).b4]) ∧
    exec .probe s = .next (wrote [0x10, 0xE0, 0x7F, 0x0F, 0x55, 0x2A])

/-- R141 to R149, R246: each inbound row loads EVENT with its frame and the frame's class, traces the event and does
nothing else, in every state. That the report is RDMSG's and not the row's is notes/assumptions/18.md. -/
def Obligations.InboundRowsDeliverTheirEvent : Prop :=
  ∀ (i : Instr) (f : Frame) (s : State), i.port = .rx → i.wf = true → i.frame? = some f →
    exec i s = .next { s with
      event := ⟨(decodeEvent f).tag, f⟩, trace := s.trace ++ [.ev (decodeEvent f).tag f] }

/-- R201, R141 to R149, R171 to R175: the frame of the 22 frame rows: no flag, no sequencer field, no latch, no pattern
changes; an outbound row leaves EVENT and the RX stream, an inbound row leaves both streams. That a frame row alone does no more,
the read and the report being RDMSG's, is the model's reading (notes/assumptions/18.md). -/
def Obligations.FrameRowsLeaveTheRest : Prop :=
  ∀ (i : Instr) (s t : State), i.port ≠ .host → exec i s = .next t →
    t.cfg = s.cfg ∧ t.cmd = s.cmd ∧ t.busy = s.busy ∧ t.done = s.done ∧ t.ok = s.ok ∧ t.err = s.err ∧
    t.align = s.align ∧ t.phase = s.phase ∧ t.att = s.att ∧ t.cnt = s.cnt ∧ t.expect = s.expect ∧ t.rx = s.rx ∧
    t.host = s.host ∧ t.hostOut = s.hostOut ∧ (i.port = .tx → t.event = s.event ∧ t.tx = s.tx ++ encode i) ∧
    (i.port = .rx → t.tx = s.tx)

/-! ### The step -/

/-- R240, R312, R78: a called word is run as the instruction the decoder reads from it, from issue to report; while
another operation is in progress the call waits and the sequencer goes on. That a call is one step is the model's choice
(notes/assumptions/7.md). -/
def Obligations.StepRunsTheCalledWord : Prop :=
  ∀ (s : State) (w : BitVec 56) (rest : List HostReq) (i : Instr),
    s.host = .call w :: rest → decodeTableWord 56 w.toNat = some i →
    (s.busy = false → step s = exec i { s with host := rest }) ∧ (s.busy = true → step s = sequence s)

/-- R206, R210 (S17): when RDMSG is about to read and the answer is a full frame, the step reads it, runs the instruction
the decoder reads from its bytes, and reports 1. -/
def Obligations.StepRunsTheInboundFrame : Prop :=
  ∀ (s : State) (f : Frame) (i : Instr),
    s.host = [] → s.phase = .msgRx → nextAnswer s = .full f → decode .rx f.bytes = .ok i →
    step s = onNext (report true .none) (exec i (rxRead s))

/-- R210 (S2, S10, S11): the writing rows of the step table, with their next states. -/
def Obligations.StepWritesTheLatchedFrame : Prop :=
  ∀ s : State, s.host = [] →
    (s.phase = .alignTx → step s = .next { s with
      tx := s.tx ++ probeBytes, trace := s.trace ++ [.tx probeBytes], att := s.att + 1, expect := probeReply, cnt := 0,
      phase := .alignRx }) ∧
    (s.phase = .cmdTx →
      let sent (f : Frame) : State := { s with
        tx := s.tx ++ f.bytes, trace := s.trace ++ [.tx f.bytes], busy := false, done := true, ok := true, err := .none,
        phase := .idle }
      (s.cmd.op = 0x02 → s.cmd.arg ≠ 0 → step s = .next { s with
        tx := s.tx ++ (encReset s.cmd.arg).bytes, trace := s.trace ++ [.tx (encReset s.cmd.arg).bytes],
        expect := encReset s.cmd.arg, cnt := 0, phase := .ackRx }) ∧
      (s.cmd.op = 0x02 → s.cmd.arg = 0 → step s = .next (sent (encReset 0))) ∧
      (s.cmd.op = 0x03 → step s = .next (sent (encSetPorts s.cmd.pa s.cmd.pb))) ∧
      (s.cmd.op = 0x04 → step s = .next (sent (encSetPortB s.cmd.pb))) ∧
      (s.cmd.op = 0x05 → step s = .next (sent (encSchedule s.cmd.pa s.cmd.arg))))

/-- R210 (S1, S9, S16, S19), R25: a write of CR0 while `BUSY == 0` latches the word, sets the flags and chooses the
phase; with nothing to do in IDLE the machine waits (R301); that a wait is a step which changes nothing is the model's choice
(notes/assumptions/15.md). -/
def Obligations.StepIssuesTheWrittenCommand : Prop :=
  (∀ (s : State) (w : BitVec 56) (rest : List HostReq), s.host = .write 0 w :: rest → s.busy = false →
    let issued : State := { s with
      host := rest, cmd := Command.ofBits w, busy := true, done := false, ok := false, err := .none }
    let op := (Command.ofBits w).op
    (op = 0x01 → step s = .next { issued with align := .probing, att := 0, phase := .alignTx }) ∧
    (op ∈ [0x02, 0x03, 0x04, 0x05] → step s = .next { issued with phase := .cmdTx }) ∧
    (op = 0x06 → step s = .next { issued with phase := .msgRx }) ∧
    (op = 0x00 ∨ 0x07 ≤ op.toNat → step s = .next { issued with
      busy := false, done := true, err := .illegalOp, phase := .idle })) ∧
  ∀ s : State, s.host = [] → s.phase = .idle → step s = .next s

/-- R210 (S3 to S8): one read of an alignment attempt, with the next state of each row. -/
def Obligations.StepReadsInAnAlignmentAttempt : Prop :=
  ∀ s : State, s.host = [] → s.phase = .alignRx →
    let r := nextAnswer s
    let read : State := { s with rx := s.rx.tail, trace := s.trace ++ [.rx 5 r] }
    let failed (t : State) : State := { t with
      align := .failed, busy := false, done := true, ok := false, err := .alignFail, phase := .idle }
    (r = .full s.expect → step s = .next { read with
      cnt := s.cnt + 1, align := .aligned, busy := false, done := true, ok := true, err := .none, phase := .idle }) ∧
    (r = .empty → s.att.toNat < 6 → step s = .next { read with phase := .alignTx }) ∧
    (r = .empty → s.att = 6 → step s = .next (failed read)) ∧
    (Miss s.expect r → s.cnt.toNat + 1 < s.cfg.alignWaitFrames → s.cfg.alignWaitFrames ≤ 31 →
      step s = .next { read with cnt := s.cnt + 1 }) ∧
    (Miss s.expect r → s.cnt.toNat + 1 = s.cfg.alignWaitFrames → s.cfg.alignWaitFrames ≤ 31 → s.att.toNat < 6 →
      step s = .next { read with cnt := s.cnt + 1, phase := .alignTx }) ∧
    (Miss s.expect r → s.cnt.toNat + 1 = s.cfg.alignWaitFrames → s.cfg.alignWaitFrames ≤ 31 → s.att = 6 →
      step s = .next (failed { read with cnt := s.cnt + 1 }))

/-- R210 (S12 to S15): one read of the acknowledgement wait, with the next state of each row. -/
def Obligations.StepReadsInTheAcknowledgementWait : Prop :=
  ∀ s : State, s.host = [] → s.phase = .ackRx →
    let r := nextAnswer s
    let read : State := { s with rx := s.rx.tail, trace := s.trace ++ [.rx 5 r] }
    let reported (o : Bool) (e : ErrCode) (t : State) : State := { t with
      busy := false, done := true, ok := o, err := e, phase := .idle }
    (r = .full s.expect → step s = .next (reported true .none { read with cnt := s.cnt + 1 })) ∧
    (r = .empty → step s = .next (reported false .timeout read)) ∧
    (Miss s.expect r → s.cnt.toNat + 1 < 20 → step s = .next { read with cnt := s.cnt + 1 }) ∧
    (Miss s.expect r → s.cnt.toNat + 1 = 20 →
      step s = .next (reported false .exhausted { read with cnt := s.cnt + 1 }))

/-- R210 (S17, S18): the one read of RDMSG, with the next state of each row. -/
def Obligations.StepReadsTheMessage : Prop :=
  ∀ s : State, s.host = [] → s.phase = .msgRx →
    (∀ f, nextAnswer s = .full f → step s = .next { s with
      rx := s.rx.tail, trace := s.trace ++ [.rx 5 (.full f), .ev (decodeEvent f).tag f],
      event := ⟨(decodeEvent f).tag, f⟩, busy := false, done := true, ok := true, err := .none, phase := .idle }) ∧
    ((∀ f, nextAnswer s ≠ .full f) → step s = .next { s with
      rx := s.rx.tail, trace := s.trace ++ [.rx 5 (nextAnswer s)],
      event := EventReg.zero, busy := false, done := true, ok := false, err := .none, phase := .idle })

/-- The model's own (notes/assumptions/2.md, 3.md): a table word placed for the next step is the instruction that step
runs, on the state given: a command word at the HOST port in IDLE; an inbound frame as the answer RDMSG has just read, with
RDMSG's report after it; the probe as the write of ALIGN, with what row S2 does after it. -/
def Obligations.FetchedTableWordIsRunNext : Prop :=
  (∀ (s : State) (w : Nat) (i : Instr), decodeTableWord 56 w = some i →
    step (s.withFetchWord 56 w) = exec i { s with busy := false, phase := .idle }) ∧
  (∀ (s : State) (w : Nat) (i : Instr) (f : Frame), decodeTableWord 40 w = some i → f.bits = BitVec.ofNat 40 w →
    step (s.withFetchWord 40 w) = onNext (report true .none) (exec i { s with
      cmd := ⟨0x06, 0, 0, 0⟩, busy := true, phase := .msgRx, trace := s.trace ++ [.rx 5 (.full f)] })) ∧
  ∀ (s : State) (w : Nat) (i : Instr), decodeTableWord 48 w = some i →
    step (s.withFetchWord 48 w) =
      onNext (fun t => { t with att := t.att + 1, expect := probeReply, cnt := 0, phase := .alignRx })
        (exec i { s with cmd := ⟨0x01, 0, 0, 0⟩, busy := true, phase := .alignTx })

/-- R50, R300, R302: reset may come in any state; CR1 to CR4 read zero after it, TRACE is empty, and the streams, the
configuration are as they were; so are the model's own fields at the HOST port (notes/assumptions/10.md). -/
def Obligations.ResetClearsRegistersAndTouchesNoStream : Prop :=
  ∀ (s : State) (rest : List HostReq), s.host = .reset :: rest →
    ∃ t, step s = .next t ∧ t.statusBits = 0 ∧ t.seqBits = 0 ∧ t.expectBits = 0 ∧ t.eventBits = 0 ∧ t.trace = [] ∧
      t.phase = .idle ∧ t.align = .probing ∧ t.event.tag = .none ∧ t.tx = s.tx ∧ t.rx = s.rx ∧ t.cfg = s.cfg ∧
      t.host = rest ∧ t.hostOut = s.hostOut

/-- R50, R301, R9: the machine right after its first reset: CR1 to CR4 zero, nothing traced, the configuration in range.
That nothing has been written to TX then is the model's choice (notes/assumptions/17.md): R302 gives the streams no reset
value. -/
def Obligations.ResetStateReadsZero : Prop :=
  State.reset.statusBits = 0 ∧ State.reset.seqBits = 0 ∧ State.reset.expectBits = 0 ∧ State.reset.eventBits = 0 ∧
  State.reset.trace = [] ∧ State.reset.tx = [] ∧ State.reset.cfg.wf ∧ State.reset.cfg.tickRate = 156250 ∧
  State.reset.cfg.alignWaitFrames = 20

/-! ### The whole machine -/

/-- The invariant holds right after reset. -/
def Obligations.InvariantHoldsAtReset : Prop := Inv State.reset

/-- Every step from a state that meets the invariant gives a state that meets it (R27 to R31, R44, R103, R271). -/
def Obligations.EveryStepKeepsTheInvariant : Prop :=
  ∀ s t : State, Inv s → step s = .next t → Inv t

/-- R211, R213, R270: where the host keeps the contract of its port, every step answers a next state: nothing is fatal and
LSYNC has no stuck state. What the contract asks beyond R51 and R312 is in notes/assumptions/8.md. -/
def Obligations.NoStuckStateUnderTheContract : Prop :=
  ∀ s : State, Inv s → HostKeepsContract s → ∃ t, step s = .next t

/-- R210, R240: a command written to CR0 and run by the sequencer's single steps ends, within the bound of R211, in
exactly the state the pseudocode of the operation gives, and stays there. -/
def Obligations.SingleStepsRefineTheOperation : Prop :=
  ∀ (s : State) (w : BitVec 56) (n : Nat), s.busy = false → s.cfg.wf → s.host = [] → stepBound s ≤ n →
    Sys2Proof.core.run n { s with host := [.write 0 w] } = exec (decodeHostWord w) s

/-- R26, R28 to R31, R21: who writes which register. But for reset, a step that changes ALIGN or ATT belongs to ALIGN, one
that changes EVENT to RDMSG, one that changes EXPECT or CNT to ALIGN or to an RSTCLK that waits; none changes the
configuration. -/
def Obligations.OnlyTheOwnerWritesARegister : Prop :=
  ∀ s t : State, Inv s → s.host.head? ≠ some .reset → step s = .next t →
    (t.align ≠ s.align ∨ t.att ≠ s.att → t.cmd.op = 0x01) ∧
    (t.event ≠ s.event → t.cmd.op = 0x06) ∧
    (t.expect ≠ s.expect ∨ t.cnt ≠ s.cnt → t.cmd.op = 0x01 ∨ awaitsAck t.cmd = true) ∧
    t.cfg = s.cfg

/-- R60, R71, R75, R103: in every step the TX stream only grows, by the probe or by whole command frames, and the RX
stream is only consumed from its front; but for reset TRACE only grows and shows what was written. -/
def Obligations.StreamsOnlyMoveForward : Prop :=
  ∀ s t : State, step s = .next t →
    (∃ k, t.rx = s.rx.drop k) ∧
    (s.host.head? ≠ some .reset → ∃ new, t.trace = s.trace ++ new ∧ t.tx = s.tx ++ txBytes new ∧
      (∀ e ∈ new, LawfulEvent e)) ∧
    (s.host.head? = some .reset → t.trace = [] ∧ t.tx = s.tx)

/-! ### The clock model and the assembler -/

/-- R191, R194: converting a tick to exact seconds and back gives the tick, for every rate and either tie rule. -/
def Obligations.TickSurvivesTheSecondsProjection : Prop :=
  ∀ (cfg : Config) (t : Tick), 0 < cfg.tickRate → secondsToTicks cfg (ticksToSeconds cfg t) = some t

/-- R192: the conversion is the low 32 bits of an integer nearest to `x * TICK_RATE`, for either tie rule; a negative `x` is
outside its domain. -/
def Obligations.SecondsRoundToTheNearestTick : Prop :=
  ∀ (cfg : Config) (x : ℚ),
    (0 ≤ x → ∃ n : ℤ, |x * cfg.tickRate - n| ≤ 1 / 2 ∧ secondsToTicks cfg x = some (BitVec.ofInt 32 n)) ∧
    (x < 0 → secondsToTicks cfg x = none)

/-- R120, R121, R102: the words of the textual operations decode to them with the ignored bits zero, PA[7:5] included;
OPEN is ALIGN, CANCEL is SETP, SCHEDS is SCHED at the converted tick. -/
def Obligations.AssembledWordsMeanTheirOperations : Prop :=
  ∀ (cfg : Config) (pa pb : Byte) (v : Tick) (w : BitVec 56) (x : ℚ),
    (assemble cfg .align).map decodeHostWord = some (.align 0 0 0) ∧
    (assemble cfg (.rstclk v)).map decodeHostWord = some (.rstclk 0 0 v) ∧
    (assemble cfg (.setp pa pb)).map decodeHostWord = some (.setp (pa &&& 0x1F) pb 0) ∧
    (assemble cfg (.setpb pb)).map decodeHostWord = some (.setpb 0 pb 0) ∧
    (assemble cfg (.sched pa v)).map decodeHostWord = some (.sched (pa &&& 0x1F) 0 v) ∧
    (assemble cfg .rdmsg).map decodeHostWord = some (.rdmsg 0 0 0) ∧
    assemble cfg (.word w) = some w ∧ assemble cfg .openLink = assemble cfg .align ∧
    assemble cfg (.cancel pa pb) = assemble cfg (.setp pa pb) ∧
    assemble cfg (.scheds pa x) = (secondsToTicks cfg x).bind fun t => assemble cfg (.sched pa t)
end

