-- ==== Sys2Proof/Laws/Codec.lean ====
section
/-!
SUPPORT. The small lemmas of the codec: joining and splitting bytes, and the byte 0 of each inbound row.
-/

namespace Sys2Proof

@[simp] theorem u32_be32 (v : Tick) : u32 (be32 v) = v := by
  unfold u32 be32
  ext i hi
  simp only [BitVec.getElem_append, BitVec.getElem_extractLsb']
  split
  · simp [BitVec.getLsbD_eq_getElem hi]
  · split
    · rename_i h1 h2
      have : 8 + (i - 8) = i := by omega
      simp [this, BitVec.getLsbD_eq_getElem hi]
    · split
      · have : 16 + (i - 8 - 8) = i := by omega
        simp [this, BitVec.getLsbD_eq_getElem hi]
      · have : 24 + (i - 8 - 8 - 8) = i := by omega
        simp [this, BitVec.getLsbD_eq_getElem hi]

@[simp] theorem be32_u32 (p : Payload) : be32 (u32 p) = p := by
  unfold u32 be32
  cases p with
  | mk b1 b2 b3 b4 =>
    congr 1 <;> ext i hi <;> simp only [BitVec.getElem_extractLsb', BitVec.getLsbD_append] <;> grind

/-! ### The same two lemmas where a frame was opened into its bytes -/

@[simp] theorem u32_be32_bytes (v : Tick) : u32 ⟨(be32 v).b1, (be32 v).b2, (be32 v).b3, (be32 v).b4⟩ = v :=
  u32_be32 v

@[simp] theorem Payload.withByte0_b0 (p : Payload) (b : Byte) : (p.withByte0 b).b0 = b := rfl

@[simp] theorem Payload.withByte0_payload (p : Payload) (b : Byte) : (p.withByte0 b).payload = p := rfl

/-! ### Byte 0 and byte 3 put together from their fields, and taken apart again (R107) -/

theorem tag_nibble_fields (x : BitVec 4) :
    (0x1#4 ++ x) &&& 0xF0#8 = 0x10#8 ∧ (0x1#4 ++ x).extractLsb' 0 4 = x ∧
      (0x2#4 ++ x) &&& 0xF0#8 = 0x20#8 ∧ (0x2#4 ++ x).extractLsb' 0 4 = x := by
  revert x; decide

theorem input2_byte_fields (s : BitVec 3) (x : BitVec 1) :
    (0x4#4 ++ s ++ x) &&& 0xF0#8 = 0x40#8 ∧ (0x4#4 ++ s ++ x).extractLsb' 1 3 = s ∧
      (0x4#4 ++ s ++ x).extractLsb' 0 1 = x := by
  revert s x; decide

theorem input3_byte_fields (x : BitVec 1) (s : BitVec 3) :
    (0x8#4 ++ x ++ s) &&& 0xF0#8 = 0x80#8 ∧ (0x8#4 ++ x ++ s).extractLsb' 0 3 = s ∧
      (0x8#4 ++ x ++ s).extractLsb' 3 1 = x := by
  revert s x; decide

theorem portsset_byte_fields (x : BitVec 2) (a : BitVec 5) :
    (1#1 ++ x ++ a) &&& 0x80#8 ≠ 0#8 ∧ (1#1 ++ x ++ a).extractLsb' 5 2 = x ∧ low5 (1#1 ++ x ++ a) = a := by
  revert x a; decide

theorem portbset_byte_fields (x : BitVec 7) :
    (0#1 ++ x) &&& 0x80#8 = 0#8 ∧ (0#1 ++ x).extractLsb' 0 7 = x := by
  revert x; decide

/-- The byte 0 of a schedule frame is in none of the classes tested before it. -/
theorem schedule_byte_fields (a : BitVec 5) :
    (0x7#3 ++ a) &&& 0xE0#8 = 0xE0#8 ∧ low5 (0x7#3 ++ a) = a ∧ (0x7#3 ++ a) &&& 0xF0#8 ≠ 0x10#8 ∧
      (0x7#3 ++ a) &&& 0xF0#8 ≠ 0x20#8 ∧ (0x7#3 ++ a) &&& 0xF0#8 ≠ 0x40#8 ∧ (0x7#3 ++ a) &&& 0xF0#8 ≠ 0x80#8 ∧
      (0x7#3 ++ a) ≠ 0x04#8 ∧ (0x7#3 ++ a) ≠ 0x00#8 := by
  revert a; decide

/-- The two masked Port A bytes of the encoders are the fields put together (R172, R174). -/
theorem masked_port_a (a : BitVec 5) :
    0x80#8 ||| (a.setWidth 8 &&& 0x1F#8) = 0x4#3 ++ a ∧ 0xE0#8 ||| (a.setWidth 8 &&& 0x1F#8) = 0x7#3 ++ a := by
  revert a; decide

/-- A byte of a class is its fields put together again. -/
theorem byte_of_fields (b : Byte) :
    (b &&& 0xF0#8 = 0x10#8 → 0x1#4 ++ b.extractLsb' 0 4 = b) ∧
      (b &&& 0xF0#8 = 0x20#8 → 0x2#4 ++ b.extractLsb' 0 4 = b) ∧
      (b &&& 0xF0#8 = 0x40#8 → 0x4#4 ++ b.extractLsb' 1 3 ++ b.extractLsb' 0 1 = b) ∧
      (b &&& 0xF0#8 = 0x80#8 → 0x8#4 ++ b.extractLsb' 3 1 ++ b.extractLsb' 0 3 = b) ∧
      (b &&& 0x80#8 ≠ 0#8 → 1#1 ++ b.extractLsb' 5 2 ++ low5 b = b) ∧
      (b &&& 0x80#8 = 0#8 → 0#1 ++ b.extractLsb' 0 7 = b) ∧
      (b &&& 0xE0#8 = 0xE0#8 → 0x7#3 ++ low5 b = b) ∧
      (b &&& 0xE0#8 = 0x80#8 → 0x4#3 ++ low5 b = b) := by
  revert b; decide

/-! ### The classes of byte 0 (R109, R149) -/

/-- The nine Unknown patterns are what the seven tests leave. -/
theorem unknown_iff_no_test (b : Byte) :
    (b &&& 0xF9#8 = 0x01#8 ∨ b &&& 0xFB#8 = 0x02#8 ∨ b &&& 0xF8#8 = 0x08#8 ∨ b &&& 0xF0#8 = 0x30#8 ∨
        b &&& 0xF0#8 = 0x50#8 ∨ b &&& 0xE0#8 = 0x60#8 ∨ b &&& 0xF0#8 = 0x90#8 ∨ b &&& 0xE0#8 = 0xA0#8 ∨
        b &&& 0xE0#8 = 0xC0#8) ↔
      (b &&& 0xF0#8 ≠ 0x10#8 ∧ b &&& 0xF0#8 ≠ 0x20#8 ∧ b &&& 0xF0#8 ≠ 0x40#8 ∧ b &&& 0xF0#8 ≠ 0x80#8 ∧
        b ≠ 0x04#8 ∧ b ≠ 0#8 ∧ b &&& 0xE0#8 ≠ 0xE0#8) := by
  revert b; decide

/-- No two of the nine Unknown patterns overlap. -/
theorem unknown_patterns_disjoint (b : Byte) :
    [decide (b &&& 0xF9#8 = 0x01#8), decide (b &&& 0xFB#8 = 0x02#8), decide (b &&& 0xF8#8 = 0x08#8),
      decide (b &&& 0xF0#8 = 0x30#8), decide (b &&& 0xF0#8 = 0x50#8), decide (b &&& 0xE0#8 = 0x60#8),
      decide (b &&& 0xF0#8 = 0x90#8), decide (b &&& 0xE0#8 = 0xA0#8), decide (b &&& 0xE0#8 = 0xC0#8)].Pairwise
        (fun x y => ¬ (x = true ∧ y = true)) := by
  revert b; decide

/-- An operation code is one of the six defined ones or reserved, never both (R101, R111). -/
theorem op_defined_or_reserved (op : Byte) :
    reservedOp op = true ↔ op ≠ 1 ∧ op ≠ 2 ∧ op ≠ 3 ∧ op ≠ 4 ∧ op ≠ 5 ∧ op ≠ 6 := by
  revert op; decide

/-- A property of an if is shown branch by branch: the way to walk the decoders' chains of tests. -/
theorem ite_property {α : Type} {P : α → Prop} {c : Prop} [Decidable c] {x y : α} (hx : c → P x) (hy : ¬ c → P y) :
    P (if c then x else y) := by
  by_cases h : c <;> simp [h, hx, hy]

end Sys2Proof
end

