-- ==== Sys2Proof/Laws/State.lean ====
section
/-!
SUPPORT. What each shared operation leaves in each field: one lemma a field, all by rfl.
-/

namespace Sys2Proof.Machine

@[simp] theorem txWrite_cfg (bs : List Byte) (s : State) : (txWrite bs s).cfg = s.cfg := rfl
@[simp] theorem txWrite_cmd (bs : List Byte) (s : State) : (txWrite bs s).cmd = s.cmd := rfl
@[simp] theorem txWrite_busy (bs : List Byte) (s : State) : (txWrite bs s).busy = s.busy := rfl
@[simp] theorem txWrite_done (bs : List Byte) (s : State) : (txWrite bs s).done = s.done := rfl
@[simp] theorem txWrite_ok (bs : List Byte) (s : State) : (txWrite bs s).ok = s.ok := rfl
@[simp] theorem txWrite_err (bs : List Byte) (s : State) : (txWrite bs s).err = s.err := rfl
@[simp] theorem txWrite_align (bs : List Byte) (s : State) : (txWrite bs s).align = s.align := rfl
@[simp] theorem txWrite_phase (bs : List Byte) (s : State) : (txWrite bs s).phase = s.phase := rfl
@[simp] theorem txWrite_att (bs : List Byte) (s : State) : (txWrite bs s).att = s.att := rfl
@[simp] theorem txWrite_cnt (bs : List Byte) (s : State) : (txWrite bs s).cnt = s.cnt := rfl
@[simp] theorem txWrite_expect (bs : List Byte) (s : State) : (txWrite bs s).expect = s.expect := rfl
@[simp] theorem txWrite_event (bs : List Byte) (s : State) : (txWrite bs s).event = s.event := rfl
@[simp] theorem txWrite_trace (bs : List Byte) (s : State) : (txWrite bs s).trace = s.trace ++ [.tx bs] := rfl
@[simp] theorem txWrite_tx (bs : List Byte) (s : State) : (txWrite bs s).tx = s.tx ++ bs := rfl
@[simp] theorem txWrite_rx (bs : List Byte) (s : State) : (txWrite bs s).rx = s.rx := rfl
@[simp] theorem txWrite_host (bs : List Byte) (s : State) : (txWrite bs s).host = s.host := rfl
@[simp] theorem txWrite_hostOut (bs : List Byte) (s : State) : (txWrite bs s).hostOut = s.hostOut := rfl

@[simp] theorem rxRead_cfg (s : State) : (rxRead s).cfg = s.cfg := rfl
@[simp] theorem rxRead_cmd (s : State) : (rxRead s).cmd = s.cmd := rfl
@[simp] theorem rxRead_busy (s : State) : (rxRead s).busy = s.busy := rfl
@[simp] theorem rxRead_done (s : State) : (rxRead s).done = s.done := rfl
@[simp] theorem rxRead_ok (s : State) : (rxRead s).ok = s.ok := rfl
@[simp] theorem rxRead_err (s : State) : (rxRead s).err = s.err := rfl
@[simp] theorem rxRead_align (s : State) : (rxRead s).align = s.align := rfl
@[simp] theorem rxRead_phase (s : State) : (rxRead s).phase = s.phase := rfl
@[simp] theorem rxRead_att (s : State) : (rxRead s).att = s.att := rfl
@[simp] theorem rxRead_cnt (s : State) : (rxRead s).cnt = s.cnt := rfl
@[simp] theorem rxRead_expect (s : State) : (rxRead s).expect = s.expect := rfl
@[simp] theorem rxRead_event (s : State) : (rxRead s).event = s.event := rfl
@[simp] theorem rxRead_trace (s : State) : (rxRead s).trace = s.trace ++ [.rx frameLen (nextAnswer s)] := rfl
@[simp] theorem rxRead_tx (s : State) : (rxRead s).tx = s.tx := rfl
@[simp] theorem rxRead_rx (s : State) : (rxRead s).rx = s.rx.tail := rfl
@[simp] theorem rxRead_host (s : State) : (rxRead s).host = s.host := rfl
@[simp] theorem rxRead_hostOut (s : State) : (rxRead s).hostOut = s.hostOut := rfl

@[simp] theorem setIssued_cfg (s : State) : (setIssued s).cfg = s.cfg := rfl
@[simp] theorem setIssued_cmd (s : State) : (setIssued s).cmd = s.cmd := rfl
@[simp] theorem setIssued_busy (s : State) : (setIssued s).busy = true := rfl
@[simp] theorem setIssued_done (s : State) : (setIssued s).done = false := rfl
@[simp] theorem setIssued_ok (s : State) : (setIssued s).ok = false := rfl
@[simp] theorem setIssued_err (s : State) : (setIssued s).err = ErrCode.none := rfl
@[simp] theorem setIssued_align (s : State) : (setIssued s).align = s.align := rfl
@[simp] theorem setIssued_phase (s : State) : (setIssued s).phase = s.phase := rfl
@[simp] theorem setIssued_att (s : State) : (setIssued s).att = s.att := rfl
@[simp] theorem setIssued_cnt (s : State) : (setIssued s).cnt = s.cnt := rfl
@[simp] theorem setIssued_expect (s : State) : (setIssued s).expect = s.expect := rfl
@[simp] theorem setIssued_event (s : State) : (setIssued s).event = s.event := rfl
@[simp] theorem setIssued_trace (s : State) : (setIssued s).trace = s.trace := rfl
@[simp] theorem setIssued_tx (s : State) : (setIssued s).tx = s.tx := rfl
@[simp] theorem setIssued_rx (s : State) : (setIssued s).rx = s.rx := rfl
@[simp] theorem setIssued_host (s : State) : (setIssued s).host = s.host := rfl
@[simp] theorem setIssued_hostOut (s : State) : (setIssued s).hostOut = s.hostOut := rfl

@[simp] theorem issue_cfg (c : Command) (s : State) : (issue c s).cfg = s.cfg := rfl
@[simp] theorem issue_cmd (c : Command) (s : State) : (issue c s).cmd = c := rfl
@[simp] theorem issue_busy (c : Command) (s : State) : (issue c s).busy = true := rfl
@[simp] theorem issue_done (c : Command) (s : State) : (issue c s).done = false := rfl
@[simp] theorem issue_ok (c : Command) (s : State) : (issue c s).ok = false := rfl
@[simp] theorem issue_err (c : Command) (s : State) : (issue c s).err = ErrCode.none := rfl
@[simp] theorem issue_align (c : Command) (s : State) : (issue c s).align = s.align := rfl
@[simp] theorem issue_phase (c : Command) (s : State) : (issue c s).phase = s.phase := rfl
@[simp] theorem issue_att (c : Command) (s : State) : (issue c s).att = s.att := rfl
@[simp] theorem issue_cnt (c : Command) (s : State) : (issue c s).cnt = s.cnt := rfl
@[simp] theorem issue_expect (c : Command) (s : State) : (issue c s).expect = s.expect := rfl
@[simp] theorem issue_event (c : Command) (s : State) : (issue c s).event = s.event := rfl
@[simp] theorem issue_trace (c : Command) (s : State) : (issue c s).trace = s.trace := rfl
@[simp] theorem issue_tx (c : Command) (s : State) : (issue c s).tx = s.tx := rfl
@[simp] theorem issue_rx (c : Command) (s : State) : (issue c s).rx = s.rx := rfl
@[simp] theorem issue_host (c : Command) (s : State) : (issue c s).host = s.host := rfl
@[simp] theorem issue_hostOut (c : Command) (s : State) : (issue c s).hostOut = s.hostOut := rfl

@[simp] theorem report_cfg (o : Bool) (e : ErrCode) (s : State) : (report o e s).cfg = s.cfg := rfl
@[simp] theorem report_cmd (o : Bool) (e : ErrCode) (s : State) : (report o e s).cmd = s.cmd := rfl
@[simp] theorem report_busy (o : Bool) (e : ErrCode) (s : State) : (report o e s).busy = false := rfl
@[simp] theorem report_done (o : Bool) (e : ErrCode) (s : State) : (report o e s).done = true := rfl
@[simp] theorem report_ok (o : Bool) (e : ErrCode) (s : State) : (report o e s).ok = o := rfl
@[simp] theorem report_err (o : Bool) (e : ErrCode) (s : State) : (report o e s).err = e := rfl
@[simp] theorem report_align (o : Bool) (e : ErrCode) (s : State) : (report o e s).align = s.align := rfl
@[simp] theorem report_phase (o : Bool) (e : ErrCode) (s : State) : (report o e s).phase = Phase.idle := rfl
@[simp] theorem report_att (o : Bool) (e : ErrCode) (s : State) : (report o e s).att = s.att := rfl
@[simp] theorem report_cnt (o : Bool) (e : ErrCode) (s : State) : (report o e s).cnt = s.cnt := rfl
@[simp] theorem report_expect (o : Bool) (e : ErrCode) (s : State) : (report o e s).expect = s.expect := rfl
@[simp] theorem report_event (o : Bool) (e : ErrCode) (s : State) : (report o e s).event = s.event := rfl
@[simp] theorem report_trace (o : Bool) (e : ErrCode) (s : State) : (report o e s).trace = s.trace := rfl
@[simp] theorem report_tx (o : Bool) (e : ErrCode) (s : State) : (report o e s).tx = s.tx := rfl
@[simp] theorem report_rx (o : Bool) (e : ErrCode) (s : State) : (report o e s).rx = s.rx := rfl
@[simp] theorem report_host (o : Bool) (e : ErrCode) (s : State) : (report o e s).host = s.host := rfl
@[simp] theorem report_hostOut (o : Bool) (e : ErrCode) (s : State) : (report o e s).hostOut = s.hostOut := rfl

@[simp] theorem deliver_cfg (t : Tag) (f : Frame) (s : State) : (deliver t f s).cfg = s.cfg := rfl
@[simp] theorem deliver_cmd (t : Tag) (f : Frame) (s : State) : (deliver t f s).cmd = s.cmd := rfl
@[simp] theorem deliver_busy (t : Tag) (f : Frame) (s : State) : (deliver t f s).busy = s.busy := rfl
@[simp] theorem deliver_done (t : Tag) (f : Frame) (s : State) : (deliver t f s).done = s.done := rfl
@[simp] theorem deliver_ok (t : Tag) (f : Frame) (s : State) : (deliver t f s).ok = s.ok := rfl
@[simp] theorem deliver_err (t : Tag) (f : Frame) (s : State) : (deliver t f s).err = s.err := rfl
@[simp] theorem deliver_align (t : Tag) (f : Frame) (s : State) : (deliver t f s).align = s.align := rfl
@[simp] theorem deliver_phase (t : Tag) (f : Frame) (s : State) : (deliver t f s).phase = s.phase := rfl
@[simp] theorem deliver_att (t : Tag) (f : Frame) (s : State) : (deliver t f s).att = s.att := rfl
@[simp] theorem deliver_cnt (t : Tag) (f : Frame) (s : State) : (deliver t f s).cnt = s.cnt := rfl
@[simp] theorem deliver_expect (t : Tag) (f : Frame) (s : State) : (deliver t f s).expect = s.expect := rfl
@[simp] theorem deliver_event (t : Tag) (f : Frame) (s : State) : (deliver t f s).event = ⟨t, f⟩ := rfl
@[simp] theorem deliver_trace (t : Tag) (f : Frame) (s : State) : (deliver t f s).trace = s.trace ++ [.ev t f] := rfl
@[simp] theorem deliver_tx (t : Tag) (f : Frame) (s : State) : (deliver t f s).tx = s.tx := rfl
@[simp] theorem deliver_rx (t : Tag) (f : Frame) (s : State) : (deliver t f s).rx = s.rx := rfl
@[simp] theorem deliver_host (t : Tag) (f : Frame) (s : State) : (deliver t f s).host = s.host := rfl
@[simp] theorem deliver_hostOut (t : Tag) (f : Frame) (s : State) : (deliver t f s).hostOut = s.hostOut := rfl

@[simp] theorem clearEvent_cfg (s : State) : (clearEvent s).cfg = s.cfg := rfl
@[simp] theorem clearEvent_cmd (s : State) : (clearEvent s).cmd = s.cmd := rfl
@[simp] theorem clearEvent_busy (s : State) : (clearEvent s).busy = s.busy := rfl
@[simp] theorem clearEvent_done (s : State) : (clearEvent s).done = s.done := rfl
@[simp] theorem clearEvent_ok (s : State) : (clearEvent s).ok = s.ok := rfl
@[simp] theorem clearEvent_err (s : State) : (clearEvent s).err = s.err := rfl
@[simp] theorem clearEvent_align (s : State) : (clearEvent s).align = s.align := rfl
@[simp] theorem clearEvent_phase (s : State) : (clearEvent s).phase = s.phase := rfl
@[simp] theorem clearEvent_att (s : State) : (clearEvent s).att = s.att := rfl
@[simp] theorem clearEvent_cnt (s : State) : (clearEvent s).cnt = s.cnt := rfl
@[simp] theorem clearEvent_expect (s : State) : (clearEvent s).expect = s.expect := rfl
@[simp] theorem clearEvent_event (s : State) : (clearEvent s).event = EventReg.zero := rfl
@[simp] theorem clearEvent_trace (s : State) : (clearEvent s).trace = s.trace := rfl
@[simp] theorem clearEvent_tx (s : State) : (clearEvent s).tx = s.tx := rfl
@[simp] theorem clearEvent_rx (s : State) : (clearEvent s).rx = s.rx := rfl
@[simp] theorem clearEvent_host (s : State) : (clearEvent s).host = s.host := rfl
@[simp] theorem clearEvent_hostOut (s : State) : (clearEvent s).hostOut = s.hostOut := rfl

@[simp] theorem armWait_cfg (e : Frame) (s : State) : (armWait e s).cfg = s.cfg := rfl
@[simp] theorem armWait_cmd (e : Frame) (s : State) : (armWait e s).cmd = s.cmd := rfl
@[simp] theorem armWait_busy (e : Frame) (s : State) : (armWait e s).busy = s.busy := rfl
@[simp] theorem armWait_done (e : Frame) (s : State) : (armWait e s).done = s.done := rfl
@[simp] theorem armWait_ok (e : Frame) (s : State) : (armWait e s).ok = s.ok := rfl
@[simp] theorem armWait_err (e : Frame) (s : State) : (armWait e s).err = s.err := rfl
@[simp] theorem armWait_align (e : Frame) (s : State) : (armWait e s).align = s.align := rfl
@[simp] theorem armWait_phase (e : Frame) (s : State) : (armWait e s).phase = s.phase := rfl
@[simp] theorem armWait_att (e : Frame) (s : State) : (armWait e s).att = s.att := rfl
@[simp] theorem armWait_cnt (e : Frame) (s : State) : (armWait e s).cnt = 0 := rfl
@[simp] theorem armWait_expect (e : Frame) (s : State) : (armWait e s).expect = e := rfl
@[simp] theorem armWait_event (e : Frame) (s : State) : (armWait e s).event = s.event := rfl
@[simp] theorem armWait_trace (e : Frame) (s : State) : (armWait e s).trace = s.trace := rfl
@[simp] theorem armWait_tx (e : Frame) (s : State) : (armWait e s).tx = s.tx := rfl
@[simp] theorem armWait_rx (e : Frame) (s : State) : (armWait e s).rx = s.rx := rfl
@[simp] theorem armWait_host (e : Frame) (s : State) : (armWait e s).host = s.host := rfl
@[simp] theorem armWait_hostOut (e : Frame) (s : State) : (armWait e s).hostOut = s.hostOut := rfl

@[simp] theorem countRead_cfg (s : State) : (countRead s).cfg = s.cfg := rfl
@[simp] theorem countRead_cmd (s : State) : (countRead s).cmd = s.cmd := rfl
@[simp] theorem countRead_busy (s : State) : (countRead s).busy = s.busy := rfl
@[simp] theorem countRead_done (s : State) : (countRead s).done = s.done := rfl
@[simp] theorem countRead_ok (s : State) : (countRead s).ok = s.ok := rfl
@[simp] theorem countRead_err (s : State) : (countRead s).err = s.err := rfl
@[simp] theorem countRead_align (s : State) : (countRead s).align = s.align := rfl
@[simp] theorem countRead_phase (s : State) : (countRead s).phase = s.phase := rfl
@[simp] theorem countRead_att (s : State) : (countRead s).att = s.att := rfl
@[simp] theorem countRead_cnt (s : State) : (countRead s).cnt = s.cnt + 1 := rfl
@[simp] theorem countRead_expect (s : State) : (countRead s).expect = s.expect := rfl
@[simp] theorem countRead_event (s : State) : (countRead s).event = s.event := rfl
@[simp] theorem countRead_trace (s : State) : (countRead s).trace = s.trace := rfl
@[simp] theorem countRead_tx (s : State) : (countRead s).tx = s.tx := rfl
@[simp] theorem countRead_rx (s : State) : (countRead s).rx = s.rx := rfl
@[simp] theorem countRead_host (s : State) : (countRead s).host = s.host := rfl
@[simp] theorem countRead_hostOut (s : State) : (countRead s).hostOut = s.hostOut := rfl

@[simp] theorem startAlign_cfg (s : State) : (startAlign s).cfg = s.cfg := rfl
@[simp] theorem startAlign_cmd (s : State) : (startAlign s).cmd = s.cmd := rfl
@[simp] theorem startAlign_busy (s : State) : (startAlign s).busy = s.busy := rfl
@[simp] theorem startAlign_done (s : State) : (startAlign s).done = s.done := rfl
@[simp] theorem startAlign_ok (s : State) : (startAlign s).ok = s.ok := rfl
@[simp] theorem startAlign_err (s : State) : (startAlign s).err = s.err := rfl
@[simp] theorem startAlign_align (s : State) : (startAlign s).align = AlignState.probing := rfl
@[simp] theorem startAlign_phase (s : State) : (startAlign s).phase = s.phase := rfl
@[simp] theorem startAlign_att (s : State) : (startAlign s).att = 0 := rfl
@[simp] theorem startAlign_cnt (s : State) : (startAlign s).cnt = s.cnt := rfl
@[simp] theorem startAlign_expect (s : State) : (startAlign s).expect = s.expect := rfl
@[simp] theorem startAlign_event (s : State) : (startAlign s).event = s.event := rfl
@[simp] theorem startAlign_trace (s : State) : (startAlign s).trace = s.trace := rfl
@[simp] theorem startAlign_tx (s : State) : (startAlign s).tx = s.tx := rfl
@[simp] theorem startAlign_rx (s : State) : (startAlign s).rx = s.rx := rfl
@[simp] theorem startAlign_host (s : State) : (startAlign s).host = s.host := rfl
@[simp] theorem startAlign_hostOut (s : State) : (startAlign s).hostOut = s.hostOut := rfl

@[simp] theorem countAttempt_cfg (s : State) : (countAttempt s).cfg = s.cfg := rfl
@[simp] theorem countAttempt_cmd (s : State) : (countAttempt s).cmd = s.cmd := rfl
@[simp] theorem countAttempt_busy (s : State) : (countAttempt s).busy = s.busy := rfl
@[simp] theorem countAttempt_done (s : State) : (countAttempt s).done = s.done := rfl
@[simp] theorem countAttempt_ok (s : State) : (countAttempt s).ok = s.ok := rfl
@[simp] theorem countAttempt_err (s : State) : (countAttempt s).err = s.err := rfl
@[simp] theorem countAttempt_align (s : State) : (countAttempt s).align = s.align := rfl
@[simp] theorem countAttempt_phase (s : State) : (countAttempt s).phase = s.phase := rfl
@[simp] theorem countAttempt_att (s : State) : (countAttempt s).att = s.att + 1 := rfl
@[simp] theorem countAttempt_cnt (s : State) : (countAttempt s).cnt = s.cnt := rfl
@[simp] theorem countAttempt_expect (s : State) : (countAttempt s).expect = s.expect := rfl
@[simp] theorem countAttempt_event (s : State) : (countAttempt s).event = s.event := rfl
@[simp] theorem countAttempt_trace (s : State) : (countAttempt s).trace = s.trace := rfl
@[simp] theorem countAttempt_tx (s : State) : (countAttempt s).tx = s.tx := rfl
@[simp] theorem countAttempt_rx (s : State) : (countAttempt s).rx = s.rx := rfl
@[simp] theorem countAttempt_host (s : State) : (countAttempt s).host = s.host := rfl
@[simp] theorem countAttempt_hostOut (s : State) : (countAttempt s).hostOut = s.hostOut := rfl

@[simp] theorem alignSuccess_cfg (s : State) : (alignSuccess s).cfg = s.cfg := rfl
@[simp] theorem alignSuccess_cmd (s : State) : (alignSuccess s).cmd = s.cmd := rfl
@[simp] theorem alignSuccess_busy (s : State) : (alignSuccess s).busy = false := rfl
@[simp] theorem alignSuccess_done (s : State) : (alignSuccess s).done = true := rfl
@[simp] theorem alignSuccess_ok (s : State) : (alignSuccess s).ok = true := rfl
@[simp] theorem alignSuccess_err (s : State) : (alignSuccess s).err = ErrCode.none := rfl
@[simp] theorem alignSuccess_align (s : State) : (alignSuccess s).align = AlignState.aligned := rfl
@[simp] theorem alignSuccess_phase (s : State) : (alignSuccess s).phase = Phase.idle := rfl
@[simp] theorem alignSuccess_att (s : State) : (alignSuccess s).att = s.att := rfl
@[simp] theorem alignSuccess_cnt (s : State) : (alignSuccess s).cnt = s.cnt := rfl
@[simp] theorem alignSuccess_expect (s : State) : (alignSuccess s).expect = s.expect := rfl
@[simp] theorem alignSuccess_event (s : State) : (alignSuccess s).event = s.event := rfl
@[simp] theorem alignSuccess_trace (s : State) : (alignSuccess s).trace = s.trace := rfl
@[simp] theorem alignSuccess_tx (s : State) : (alignSuccess s).tx = s.tx := rfl
@[simp] theorem alignSuccess_rx (s : State) : (alignSuccess s).rx = s.rx := rfl
@[simp] theorem alignSuccess_host (s : State) : (alignSuccess s).host = s.host := rfl
@[simp] theorem alignSuccess_hostOut (s : State) : (alignSuccess s).hostOut = s.hostOut := rfl

@[simp] theorem alignFailure_cfg (s : State) : (alignFailure s).cfg = s.cfg := rfl
@[simp] theorem alignFailure_cmd (s : State) : (alignFailure s).cmd = s.cmd := rfl
@[simp] theorem alignFailure_busy (s : State) : (alignFailure s).busy = false := rfl
@[simp] theorem alignFailure_done (s : State) : (alignFailure s).done = true := rfl
@[simp] theorem alignFailure_ok (s : State) : (alignFailure s).ok = false := rfl
@[simp] theorem alignFailure_err (s : State) : (alignFailure s).err = ErrCode.alignFail := rfl
@[simp] theorem alignFailure_align (s : State) : (alignFailure s).align = AlignState.failed := rfl
@[simp] theorem alignFailure_phase (s : State) : (alignFailure s).phase = Phase.idle := rfl
@[simp] theorem alignFailure_att (s : State) : (alignFailure s).att = s.att := rfl
@[simp] theorem alignFailure_cnt (s : State) : (alignFailure s).cnt = s.cnt := rfl
@[simp] theorem alignFailure_expect (s : State) : (alignFailure s).expect = s.expect := rfl
@[simp] theorem alignFailure_event (s : State) : (alignFailure s).event = s.event := rfl
@[simp] theorem alignFailure_trace (s : State) : (alignFailure s).trace = s.trace := rfl
@[simp] theorem alignFailure_tx (s : State) : (alignFailure s).tx = s.tx := rfl
@[simp] theorem alignFailure_rx (s : State) : (alignFailure s).rx = s.rx := rfl
@[simp] theorem alignFailure_host (s : State) : (alignFailure s).host = s.host := rfl
@[simp] theorem alignFailure_hostOut (s : State) : (alignFailure s).hostOut = s.hostOut := rfl

@[simp] theorem platformReset_cfg (s : State) : (platformReset s).cfg = s.cfg := rfl
@[simp] theorem platformReset_cmd (s : State) : (platformReset s).cmd = ⟨0, 0, 0, 0⟩ := rfl
@[simp] theorem platformReset_busy (s : State) : (platformReset s).busy = false := rfl
@[simp] theorem platformReset_done (s : State) : (platformReset s).done = false := rfl
@[simp] theorem platformReset_ok (s : State) : (platformReset s).ok = false := rfl
@[simp] theorem platformReset_err (s : State) : (platformReset s).err = ErrCode.none := rfl
@[simp] theorem platformReset_align (s : State) : (platformReset s).align = AlignState.probing := rfl
@[simp] theorem platformReset_phase (s : State) : (platformReset s).phase = Phase.idle := rfl
@[simp] theorem platformReset_att (s : State) : (platformReset s).att = 0 := rfl
@[simp] theorem platformReset_cnt (s : State) : (platformReset s).cnt = 0 := rfl
@[simp] theorem platformReset_expect (s : State) : (platformReset s).expect = Frame.zero := rfl
@[simp] theorem platformReset_event (s : State) : (platformReset s).event = EventReg.zero := rfl
@[simp] theorem platformReset_trace (s : State) : (platformReset s).trace = [] := rfl
@[simp] theorem platformReset_tx (s : State) : (platformReset s).tx = s.tx := rfl
@[simp] theorem platformReset_rx (s : State) : (platformReset s).rx = s.rx := rfl
@[simp] theorem platformReset_host (s : State) : (platformReset s).host = s.host := rfl
@[simp] theorem platformReset_hostOut (s : State) : (platformReset s).hostOut = s.hostOut := rfl

end Sys2Proof.Machine
end

