-- ==== Sys2Proof/Laws/Ops.lean ====
section
/-!
SUPPORT. What each shared operation can do, said once: the read, one turn of a wait, the unfolding of the two loops, and
the frame every host operation is wrapped in.
-/

namespace Sys2Proof.Machine

/-! ### The answers to come -/

theorem upcoming_succ (s : State) (n : Nat) : upcoming s (n + 1) = nextAnswer s :: upcoming (rxRead s) n := by
  simp only [upcoming, List.range_succ_eq_map, List.map_cons, List.map_map, nextAnswer, rxRead_rx]
  congr 1
  · cases s.rx <;> rfl
  · apply List.map_congr_left
    intro k _
    cases s.rx <;> simp

@[simp] theorem upcoming_zero (s : State) : upcoming s 0 = [] := rfl

/-- Only the script decides the answers to come. -/
theorem upcoming_congr {s t : State} (h : s.rx = t.rx) (n : Nat) : upcoming s n = upcoming t n := by
  simp only [upcoming, h]

theorem nextAnswer_congr {s t : State} (h : s.rx = t.rx) : nextAnswer s = nextAnswer t := by
  simp only [nextAnswer, h]

/-- The first of the answers to come is the next answer; the others are those after the read. -/
theorem upcoming_cons {s : State} {r : RxAnswer} {rs : List RxAnswer} :
    upcoming s (r :: rs).length = r :: rs ↔ nextAnswer s = r ∧ upcoming (rxRead s) rs.length = rs := by
  rw [List.length_cons, upcoming_succ, List.cons.injEq]

/-- Answers to come, cut in two: the second part comes after the first. -/
theorem upcoming_append {s : State} {as bs : List RxAnswer} :
    upcoming s (as ++ bs).length = as ++ bs ↔
      upcoming s as.length = as ∧ upcoming (afterReads as s) bs.length = bs := by
  induction as generalizing s with
  | nil => simp [afterReads, rxTrace]
  | cons a as ih =>
    rw [List.cons_append, upcoming_cons, upcoming_cons, ih, and_assoc]
    refine and_congr_right fun _ => and_congr_right fun _ => ?_
    rw [upcoming_congr]
    simp [afterReads]

theorem afterReads_nil (s : State) : afterReads [] s = s := by simp [afterReads, rxTrace]

theorem afterReads_cons {s : State} {r : RxAnswer} (h : nextAnswer s = r) (rs : List RxAnswer) :
    afterReads (r :: rs) s = afterReads rs (rxRead s) := by
  subst h
  simp [afterReads, rxRead, rxTrace]

/-! ### One turn of a wait: exactly one of four things -/

theorem turn_empty {s : State} (limit : Nat) (h : nextAnswer s = .empty) :
    turnVerdict limit s = some .empty ∧ waitTurn s = rxRead s := by
  simp [turnVerdict, waitVerdict, waitTurn, waitCount, h]

theorem turn_matched {s : State} (limit : Nat) (h : nextAnswer s = .full s.expect) :
    turnVerdict limit s = some .matched ∧ waitTurn s = countRead (rxRead s) := by
  simp [turnVerdict, waitVerdict, waitTurn, waitCount, h]

theorem turn_missed {s : State} (limit : Nat) (h : Miss s.expect (nextAnswer s)) :
    turnVerdict limit s = (if (s.cnt + 1).toNat = limit then some .exhausted else none) ∧
      waitTurn s = countRead (rxRead s) := by
  simp [turnVerdict, waitVerdict, waitTurn, waitCount, h.1, h.2]

/-- A read is empty, a match, or a miss. -/
theorem answer_cases (e : Frame) (r : RxAnswer) : r = .empty ∨ r = .full e ∨ Miss e r := by
  unfold Miss
  tauto

/-! ### One turn of a wait, field by field -/

/-- The state after one turn: the read, and one more on the counter unless the answer was empty. -/
theorem waitTurn_eq (s : State) :
    waitTurn s = rxRead s ∧ nextAnswer s = .empty ∨ waitTurn s = countRead (rxRead s) ∧ nextAnswer s ≠ .empty := by
  by_cases h : nextAnswer s = .empty <;> simp [waitTurn, waitCount, h]

@[simp] theorem waitTurn_cfg (s : State) : (waitTurn s).cfg = s.cfg := by
  rcases waitTurn_eq s with ⟨h, -⟩ | ⟨h, -⟩ <;> rw [h] <;> rfl

@[simp] theorem waitTurn_cmd (s : State) : (waitTurn s).cmd = s.cmd := by
  rcases waitTurn_eq s with ⟨h, -⟩ | ⟨h, -⟩ <;> rw [h] <;> rfl

@[simp] theorem waitTurn_busy (s : State) : (waitTurn s).busy = s.busy := by
  rcases waitTurn_eq s with ⟨h, -⟩ | ⟨h, -⟩ <;> rw [h] <;> rfl

@[simp] theorem waitTurn_done (s : State) : (waitTurn s).done = s.done := by
  rcases waitTurn_eq s with ⟨h, -⟩ | ⟨h, -⟩ <;> rw [h] <;> rfl

@[simp] theorem waitTurn_ok (s : State) : (waitTurn s).ok = s.ok := by
  rcases waitTurn_eq s with ⟨h, -⟩ | ⟨h, -⟩ <;> rw [h] <;> rfl

@[simp] theorem waitTurn_err (s : State) : (waitTurn s).err = s.err := by
  rcases waitTurn_eq s with ⟨h, -⟩ | ⟨h, -⟩ <;> rw [h] <;> rfl

@[simp] theorem waitTurn_align (s : State) : (waitTurn s).align = s.align := by
  rcases waitTurn_eq s with ⟨h, -⟩ | ⟨h, -⟩ <;> rw [h] <;> rfl

@[simp] theorem waitTurn_phase (s : State) : (waitTurn s).phase = s.phase := by
  rcases waitTurn_eq s with ⟨h, -⟩ | ⟨h, -⟩ <;> rw [h] <;> rfl

@[simp] theorem waitTurn_att (s : State) : (waitTurn s).att = s.att := by
  rcases waitTurn_eq s with ⟨h, -⟩ | ⟨h, -⟩ <;> rw [h] <;> rfl

@[simp] theorem waitTurn_expect (s : State) : (waitTurn s).expect = s.expect := by
  rcases waitTurn_eq s with ⟨h, -⟩ | ⟨h, -⟩ <;> rw [h] <;> rfl

@[simp] theorem waitTurn_event (s : State) : (waitTurn s).event = s.event := by
  rcases waitTurn_eq s with ⟨h, -⟩ | ⟨h, -⟩ <;> rw [h] <;> rfl

@[simp] theorem waitTurn_tx (s : State) : (waitTurn s).tx = s.tx := by
  rcases waitTurn_eq s with ⟨h, -⟩ | ⟨h, -⟩ <;> rw [h] <;> rfl

@[simp] theorem waitTurn_host (s : State) : (waitTurn s).host = s.host := by
  rcases waitTurn_eq s with ⟨h, -⟩ | ⟨h, -⟩ <;> rw [h] <;> rfl

@[simp] theorem waitTurn_hostOut (s : State) : (waitTurn s).hostOut = s.hostOut := by
  rcases waitTurn_eq s with ⟨h, -⟩ | ⟨h, -⟩ <;> rw [h] <;> rfl

@[simp] theorem waitTurn_rx (s : State) : (waitTurn s).rx = s.rx.tail := by
  rcases waitTurn_eq s with ⟨h, -⟩ | ⟨h, -⟩ <;> rw [h] <;> rfl

@[simp] theorem waitTurn_trace (s : State) : (waitTurn s).trace = s.trace ++ [.rx frameLen (nextAnswer s)] := by
  rcases waitTurn_eq s with ⟨h, -⟩ | ⟨h, -⟩ <;> rw [h] <;> rfl

/-- A wait that goes on has counted its read and is not at its limit. -/
theorem turn_goes_on {limit : Nat} {s : State} (h : turnVerdict limit s = none) :
    (waitTurn s).cnt = s.cnt + 1 ∧ (s.cnt + 1).toNat ≠ limit ∧ Miss s.expect (nextAnswer s) := by
  rcases answer_cases s.expect (nextAnswer s) with h' | h' | h'
  · rw [(turn_empty limit h').1] at h; cases h
  · rw [(turn_matched limit h').1] at h; cases h
  · rw [(turn_missed limit h').1] at h
    refine ⟨by rw [(turn_missed limit h').2]; rfl, fun hh => ?_, h'⟩
    rw [if_pos hh] at h; cases h

/-! ### The loops, unfolded once -/

theorem waitLoop_ends {limit fuel : Nat} {s : State} {w : WaitResult} (h : turnVerdict limit s = some w) :
    waitLoop limit (fuel + 1) s = (w, waitTurn s) := by
  simp [waitLoop, h]

theorem waitLoop_goes_on {limit fuel : Nat} {s : State} (h : turnVerdict limit s = none) :
    waitLoop limit (fuel + 1) s = waitLoop limit fuel (waitTurn s) := by
  simp [waitLoop, h]

/-- What a wait leaves: everything but the counter, the RX stream and TRACE, which grows by reads. -/
theorem waitLoop_frame (limit fuel : Nat) (s : State) :
    ∃ rs cnt, (waitLoop limit fuel s).2 = { afterReads rs s with cnt := cnt } ∧ rs.length ≤ fuel := by
  induction fuel generalizing s with
  | zero => exact ⟨[], s.cnt, by rw [afterReads_nil]; rfl, Nat.le_refl _⟩
  | succ n ih =>
    cases hv : turnVerdict limit s with
    | none =>
      obtain ⟨rs, cnt, h, hl⟩ := ih (waitTurn s)
      refine ⟨nextAnswer s :: rs, cnt, ?_, by simpa using hl⟩
      rw [waitLoop_goes_on hv, h, afterReads_cons rfl]
      rcases waitTurn_eq s with ⟨e, -⟩ | ⟨e, -⟩ <;> (rw [e]; try rfl)
    | some w =>
      refine ⟨[nextAnswer s], (waitTurn s).cnt, ?_, by simp⟩
      rw [waitLoop_ends hv, afterReads_cons rfl, afterReads_nil]
      rcases waitTurn_eq s with ⟨e, -⟩ | ⟨e, -⟩ <;> (rw [e]; try rfl)

theorem alignLoop_succeeds {fuel : Nat} {s t : State} (h : alignAttempt s = (.matched, t)) :
    alignLoop (fuel + 1) s = alignSuccess t := by
  simp [alignLoop, h]

theorem alignLoop_retries {fuel : Nat} {s t : State} {w : WaitResult} (h : alignAttempt s = (w, t))
    (hw : w ≠ .matched) :
    alignLoop (fuel + 1) s = if t.att.toNat = maxAlignAttempts then alignFailure t else alignLoop fuel t := by
  cases w <;> simp_all [alignLoop]

/-! ### The wrapper of the host operations -/

theorem operate_busy {c : Command} {body : State → State} {s : State} (h : s.busy = true) :
    operate c body s = .refused .commandWhileBusy := by
  simp [operate, h]

theorem operate_free {c : Command} {body : State → State} {s : State} (h : s.busy = false) :
    operate c body s = .next (body (issue c s)) := by
  simp [operate, h]

/-- A host operation that answers a next state was not busy, and its next state is its body run from the issue. -/
theorem operate_next {c : Command} {body : State → State} {s t : State} (h : operate c body s = .next t) :
    s.busy = false ∧ t = body (issue c s) := by
  unfold operate at h
  split at h
  · cases h
  · rename_i hb
    cases h
    exact ⟨by simpa using hb, rfl⟩

/-! ### The peer contract -/

/-- What a device keeping the contract sends is, for the wait that expects the owed reply, a wait that matches, and every
one of its reads is counted. -/
theorem answersInTurn_matches {written : List Byte} {answers : List RxAnswer} {reply : Frame} {limit : Nat}
    (owes : Peer.owed written = some reply) (h : Peer.answersInTurn written answers) (fits : answers.length ≤ limit) :
    MatchedWait reply limit answers ∧ nonEmptyReads answers = answers.length := by
  obtain ⟨fs, r, hr, before, rfl⟩ := h
  obtain rfl : reply = r := by simpa [owes] using hr
  refine ⟨⟨fs.map .full, rfl, by simp at fits ⊢; omega, ?_⟩, by simp [nonEmptyReads, List.countP_eq_length]⟩
  intro x hx
  obtain ⟨f, hf, rfl⟩ := List.mem_map.1 hx
  exact ⟨by simp, by simpa using (before f hf).2⟩

end Sys2Proof.Machine
end

