-- ==== Sys2Proof/Laws/PerInstr.lean ====
section
/-!
SUPPORT. Facts of the instructions as syntax, one lemma per constructor: how many bytes an instruction is (R100 to R107).
-/

open Sys2Proof

/-- A command word has 7 bytes, the probe 6, every other frame 5; the port says which (R100). -/
def Sys2Proof.Laws.EncodedLength.Statement (i : Instr) : Prop :=
  (encode i).length = match i.port with
    | .host => 7
    | .tx => if i.frame?.isSome then frameLen else probeLen
    | .rx => frameLen

theorem Sys2Proof.Laws.EncodedLength.align (pa pb : Byte) (arg : Tick) :
    Sys2Proof.Laws.EncodedLength.Statement (.align pa pb arg) := rfl

theorem Sys2Proof.Laws.EncodedLength.rstclk (pa pb : Byte) (arg : Tick) :
    Sys2Proof.Laws.EncodedLength.Statement (.rstclk pa pb arg) := rfl

theorem Sys2Proof.Laws.EncodedLength.setp (pa pb : Byte) (arg : Tick) :
    Sys2Proof.Laws.EncodedLength.Statement (.setp pa pb arg) := rfl

theorem Sys2Proof.Laws.EncodedLength.setpb (pa pb : Byte) (arg : Tick) :
    Sys2Proof.Laws.EncodedLength.Statement (.setpb pa pb arg) := rfl

theorem Sys2Proof.Laws.EncodedLength.sched (pa pb : Byte) (arg : Tick) :
    Sys2Proof.Laws.EncodedLength.Statement (.sched pa pb arg) := rfl

theorem Sys2Proof.Laws.EncodedLength.rdmsg (pa pb : Byte) (arg : Tick) :
    Sys2Proof.Laws.EncodedLength.Statement (.rdmsg pa pb arg) := rfl

theorem Sys2Proof.Laws.EncodedLength.reservedOp0 (pa pb : Byte) (arg : Tick) :
    Sys2Proof.Laws.EncodedLength.Statement (.reservedOp0 pa pb arg) := rfl

theorem Sys2Proof.Laws.EncodedLength.reservedOp1 (pa pb : Byte) (arg : Tick) :
    Sys2Proof.Laws.EncodedLength.Statement (.reservedOp1 pa pb arg) := rfl

theorem Sys2Proof.Laws.EncodedLength.reservedOp2 (op pa pb : Byte) (arg : Tick) :
    Sys2Proof.Laws.EncodedLength.Statement (.reservedOp2 op pa pb arg) := rfl

theorem Sys2Proof.Laws.EncodedLength.reservedOp3 (op pa pb : Byte) (arg : Tick) :
    Sys2Proof.Laws.EncodedLength.Statement (.reservedOp3 op pa pb arg) := rfl

theorem Sys2Proof.Laws.EncodedLength.reservedOp4 (op pa pb : Byte) (arg : Tick) :
    Sys2Proof.Laws.EncodedLength.Statement (.reservedOp4 op pa pb arg) := rfl

theorem Sys2Proof.Laws.EncodedLength.reservedOp5 (op pa pb : Byte) (arg : Tick) :
    Sys2Proof.Laws.EncodedLength.Statement (.reservedOp5 op pa pb arg) := rfl

theorem Sys2Proof.Laws.EncodedLength.reservedOp6 (op pa pb : Byte) (arg : Tick) :
    Sys2Proof.Laws.EncodedLength.Statement (.reservedOp6 op pa pb arg) := rfl

theorem Sys2Proof.Laws.EncodedLength.reset (ack : Tick) :
    Sys2Proof.Laws.EncodedLength.Statement (.reset ack) := rfl

theorem Sys2Proof.Laws.EncodedLength.setports (a : BitVec 5) (b : Byte) :
    Sys2Proof.Laws.EncodedLength.Statement (.setports a b) := rfl

theorem Sys2Proof.Laws.EncodedLength.setportb (b : Byte) :
    Sys2Proof.Laws.EncodedLength.Statement (.setportb b) := rfl

theorem Sys2Proof.Laws.EncodedLength.schedule (a : BitVec 5) (at_ : Tick) :
    Sys2Proof.Laws.EncodedLength.Statement (.schedule a at_) := rfl

theorem Sys2Proof.Laws.EncodedLength.probe :
    Sys2Proof.Laws.EncodedLength.Statement .probe := rfl

theorem Sys2Proof.Laws.EncodedLength.heartbeat (x : BitVec 4) (tick : Tick) :
    Sys2Proof.Laws.EncodedLength.Statement (.heartbeat x tick) := rfl

theorem Sys2Proof.Laws.EncodedLength.input1 (x : BitVec 4) (tick : Tick) :
    Sys2Proof.Laws.EncodedLength.Statement (.input1 x tick) := rfl

theorem Sys2Proof.Laws.EncodedLength.input2 (s : BitVec 3) (x : BitVec 1) (tick : Tick) :
    Sys2Proof.Laws.EncodedLength.Statement (.input2 s x tick) := rfl

theorem Sys2Proof.Laws.EncodedLength.input3 (x : BitVec 1) (s : BitVec 3) (tick : Tick) :
    Sys2Proof.Laws.EncodedLength.Statement (.input3 x s tick) := rfl

theorem Sys2Proof.Laws.EncodedLength.portsset (b x2 : Byte) (x3 : BitVec 2) (a : BitVec 5) (x4 : Byte) :
    Sys2Proof.Laws.EncodedLength.Statement (.portsset b x2 x3 a x4) := rfl

theorem Sys2Proof.Laws.EncodedLength.portbset (b x2 : Byte) (x3 : BitVec 7) (x4 : Byte) :
    Sys2Proof.Laws.EncodedLength.Statement (.portbset b x2 x3 x4) := rfl

theorem Sys2Proof.Laws.EncodedLength.resetecho (p : Payload) :
    Sys2Proof.Laws.EncodedLength.Statement (.resetecho p) := rfl

theorem Sys2Proof.Laws.EncodedLength.schedout (a : BitVec 5) (tick : Tick) :
    Sys2Proof.Laws.EncodedLength.Statement (.schedout a tick) := rfl

theorem Sys2Proof.Laws.EncodedLength.unknown0 (b0 : Byte) (r : Payload) :
    Sys2Proof.Laws.EncodedLength.Statement (.unknown0 b0 r) := rfl

theorem Sys2Proof.Laws.EncodedLength.unknown1 (b0 : Byte) (r : Payload) :
    Sys2Proof.Laws.EncodedLength.Statement (.unknown1 b0 r) := rfl

theorem Sys2Proof.Laws.EncodedLength.unknown2 (b0 : Byte) (r : Payload) :
    Sys2Proof.Laws.EncodedLength.Statement (.unknown2 b0 r) := rfl

theorem Sys2Proof.Laws.EncodedLength.unknown3 (b0 : Byte) (r : Payload) :
    Sys2Proof.Laws.EncodedLength.Statement (.unknown3 b0 r) := rfl

theorem Sys2Proof.Laws.EncodedLength.unknown4 (b0 : Byte) (r : Payload) :
    Sys2Proof.Laws.EncodedLength.Statement (.unknown4 b0 r) := rfl

theorem Sys2Proof.Laws.EncodedLength.unknown5 (b0 : Byte) (r : Payload) :
    Sys2Proof.Laws.EncodedLength.Statement (.unknown5 b0 r) := rfl

theorem Sys2Proof.Laws.EncodedLength.unknown6 (b0 : Byte) (r : Payload) :
    Sys2Proof.Laws.EncodedLength.Statement (.unknown6 b0 r) := rfl

theorem Sys2Proof.Laws.EncodedLength.unknown7 (b0 : Byte) (r : Payload) :
    Sys2Proof.Laws.EncodedLength.Statement (.unknown7 b0 r) := rfl

theorem Sys2Proof.Laws.EncodedLength.unknown8 (b0 : Byte) (r : Payload) :
    Sys2Proof.Laws.EncodedLength.Statement (.unknown8 b0 r) := rfl
end

