-- ==== Sys2Proof/Tests/Slice0.lean ====
section
/-!
SUPPORT. The model's own tests. Expected values are hand-taken from spec/95_test_vectors.md (the vector is named in each
docstring) or from the encodings of spec/30_encoding.md; none is the model's own answer. Then one witness for the
hypotheses of each statement of Certificates/Slice0/Obligations.lean, at the boundaries of its clauses.
-/

namespace Sys2Proof.Tests

open Sys2Proof.Machine

/-! ### WellFormed refuses ill-formed terms, one for each check -/

theorem test_wf_refuses_reservedOp2 : Instr.wf (.reservedOp2 0x10 0 0 0) = false := by decide

theorem test_wf_refuses_reservedOp3 : Instr.wf (.reservedOp3 0x20 0 0 0) = false := by decide

theorem test_wf_refuses_reservedOp4 : Instr.wf (.reservedOp4 0x1F 0 0 0) = false := by decide

theorem test_wf_refuses_reservedOp5 : Instr.wf (.reservedOp5 0x80 0 0 0) = false := by decide

theorem test_wf_refuses_reservedOp6 : Instr.wf (.reservedOp6 0x7F 0 0 0) = false := by decide

theorem test_wf_refuses_unknown0 : Instr.wf (.unknown0 0x09 ⟨0, 0, 0, 0⟩) = false := by decide

theorem test_wf_refuses_unknown1 : Instr.wf (.unknown1 0x04 ⟨0, 0, 0, 0⟩) = false := by decide

theorem test_wf_refuses_unknown2 : Instr.wf (.unknown2 0x10 ⟨0, 0, 0, 0⟩) = false := by decide

theorem test_wf_refuses_unknown3 : Instr.wf (.unknown3 0x40 ⟨0, 0, 0, 0⟩) = false := by decide

theorem test_wf_refuses_unknown4 : Instr.wf (.unknown4 0x40 ⟨0, 0, 0, 0⟩) = false := by decide

theorem test_wf_refuses_unknown5 : Instr.wf (.unknown5 0x80 ⟨0, 0, 0, 0⟩) = false := by decide

theorem test_wf_refuses_unknown6 : Instr.wf (.unknown6 0x80 ⟨0, 0, 0, 0⟩) = false := by decide

theorem test_wf_refuses_unknown7 : Instr.wf (.unknown7 0xC0 ⟨0, 0, 0, 0⟩) = false := by decide

theorem test_wf_refuses_unknown8 : Instr.wf (.unknown8 0xE0 ⟨0, 0, 0, 0⟩) = false := by decide

/-! ### Every row decodes from a word written out from its encoding (R101, R104, R105, R107; the table's patterns) -/

theorem test_decode_align : decodeTableWord 56 0x01AABB00000001 = some (.align 0xAA 0xBB 1) := by decide

theorem test_decode_rstclk : decodeTableWord 56 0x020000CAFEBEEF = some (.rstclk 0 0 0xCAFEBEEF) := by decide

theorem test_decode_setp : decodeTableWord 56 0x031FFF00000000 = some (.setp 0x1F 0xFF 0) := by decide

theorem test_decode_setpb : decodeTableWord 56 0x0400A500000000 = some (.setpb 0 0xA5 0) := by decide

theorem test_decode_sched : decodeTableWord 56 0x0503000004C4B4 = some (.sched 3 0 0x0004C4B4) := by decide

theorem test_decode_rdmsg : decodeTableWord 56 0x06FFFFFFFFFFFF = some (.rdmsg 0xFF 0xFF 0xFFFFFFFF) := by decide

theorem test_decode_reservedOp0 : decodeTableWord 56 0x00010203040506 = some (.reservedOp0 1 2 0x03040506) := by decide

theorem test_decode_reservedOp1 : decodeTableWord 56 0x07000000000000 = some (.reservedOp1 0 0 0) := by decide

theorem test_decode_reservedOp2 : decodeTableWord 56 0x0F000000000000 = some (.reservedOp2 0x0F 0 0 0) := by decide

theorem test_decode_reservedOp3 : decodeTableWord 56 0x10000000000000 = some (.reservedOp3 0x10 0 0 0) := by decide

theorem test_decode_reservedOp4 : decodeTableWord 56 0x3F000000000000 = some (.reservedOp4 0x3F 0 0 0) := by decide

theorem test_decode_reservedOp5 : decodeTableWord 56 0x40000000000000 = some (.reservedOp5 0x40 0 0 0) := by decide

theorem test_decode_reservedOp6 : decodeTableWord 56 0xFF123456789ABC = some (.reservedOp6 0xFF 0x12 0x34 0x56789ABC) := by decide

/-- E1. -/
theorem test_decode_reset : decode .tx [0x00, 0xCA, 0xFE, 0xBE, 0xEF] = .ok (.reset 0xCAFEBEEF) := by decide

/-- E5. -/
theorem test_decode_setports : decode .tx [0x04, 0xFF, 0x00, 0x9F, 0x00] = .ok (.setports 0x1F 0xFF) := by decide

/-- E10. -/
theorem test_decode_setportb : decode .tx [0x04, 0xA5, 0x00, 0x00, 0x00] = .ok (.setportb 0xA5) := by decide

/-- E13. -/
theorem test_decode_schedule : decode .tx [0xE3, 0x00, 0x04, 0xC4, 0xB4] = .ok (.schedule 3 0x0004C4B4) := by decide

/-- E17. -/
theorem test_decode_probe : decode .tx [0x10, 0xE0, 0x7F, 0x0F, 0x55, 0x2A] = .ok (.probe) := by decide

/-- R105: the probe as a 48-bit table word. -/
theorem test_decode_probe_word : decodeTableWord 48 0x10E07F0F552A = some .probe := by decide

/-- D2. -/
theorem test_decode_heartbeat : decodeTableWord 40 0x1FFFFFFFFF = some (.heartbeat 0xF 0xFFFFFFFF) := by decide

/-- D4. -/
theorem test_decode_input1 : decodeTableWord 40 0x2A00003D09 = some (.input1 0xA 0x3D09) := by decide

/-- D6. -/
theorem test_decode_input2 : decodeTableWord 40 0x4F01020304 = some (.input2 7 1 0x01020304) := by decide

/-- D10. -/
theorem test_decode_input3 : decodeTableWord 40 0x8F00000000 = some (.input3 1 7 0) := by decide

/-- D12. -/
theorem test_decode_portsset : decodeTableWord 40 0x04AA55FF77 = some (.portsset 0xAA 0x55 3 0x1F 0x77) := by decide

/-- D14. -/
theorem test_decode_portbset : decodeTableWord 40 0x04FF001F00 = some (.portbset 0xFF 0 0x1F 0) := by decide

/-- D16. -/
theorem test_decode_resetecho : decodeTableWord 40 0x00CAFEBEEF = some (.resetecho ⟨0xCA, 0xFE, 0xBE, 0xEF⟩) := by decide

/-- D19. -/
theorem test_decode_schedout : decodeTableWord 40 0xE400000001 = some (.schedout 4 1) := by decide

/-- D22. -/
theorem test_decode_unknown0 : decodeTableWord 40 0x0500000000 = some (.unknown0 0x05 ⟨0, 0, 0, 0⟩) := by decide

/-- UNKNOWN_1's pattern. -/
theorem test_decode_unknown1 : decodeTableWord 40 0x0200000009 = some (.unknown1 0x02 ⟨0, 0, 0, 9⟩) := by decide

/-- D23. -/
theorem test_decode_unknown2 : decodeTableWord 40 0x0800000000 = some (.unknown2 0x08 ⟨0, 0, 0, 0⟩) := by decide

/-- D21. -/
theorem test_decode_unknown3 : decodeTableWord 40 0x3001020304 = some (.unknown3 0x30 ⟨1, 2, 3, 4⟩) := by decide

/-- UNKNOWN_4's pattern. -/
theorem test_decode_unknown4 : decodeTableWord 40 0x5F00000000 = some (.unknown4 0x5F ⟨0, 0, 0, 0⟩) := by decide

/-- D27. -/
theorem test_decode_unknown5 : decodeTableWord 40 0x6000000000 = some (.unknown5 0x60 ⟨0, 0, 0, 0⟩) := by decide

/-- D26. -/
theorem test_decode_unknown6 : decodeTableWord 40 0x9000000000 = some (.unknown6 0x90 ⟨0, 0, 0, 0⟩) := by decide

/-- UNKNOWN_7's pattern. -/
theorem test_decode_unknown7 : decodeTableWord 40 0xBF00000000 = some (.unknown7 0xBF ⟨0, 0, 0, 0⟩) := by decide

/-- D28. -/
theorem test_decode_unknown8 : decodeTableWord 40 0xDFFFFFFFFF = some (.unknown8 0xDF ⟨0xFF, 0xFF, 0xFF, 0xFF⟩) := by decide

/-- R113: a byte string of no format's length is rejected by name. -/
theorem test_decode_rejects_lengths :
    decode .host [0x01] = .error .wrongLength ∧ decode .rx [0x10, 0, 0, 0] = .error .wrongLength ∧
      decode .tx [] = .error .wrongLength ∧ decodeTableWord 32 0 = none := by decide

/-- R103, R176: a heartbeat is nothing LSYNC writes. -/
theorem test_decode_rejects_writes : decode .tx [0x10, 0, 0, 0, 0] = .error .notAnOutboundFrame := by decide

/-! ### States for one step -/

/-- Reset, with the vectors' configuration and a given ALIGN_WAIT_FRAMES, and a script. -/
def at_ (limit : Nat) (rx : List RxAnswer) : State :=
  { State.reset with cfg := ⟨156250, 1, limit, .halfUp, 0⟩, rx := rx }

/-- Reset with the vectors' configuration and a script. -/
def scripted (rx : List RxAnswer) : State := at_ 20 rx

/-- A heartbeat, the vectors' `H`. -/
def beat : RxAnswer := .full ⟨0x10, 0, 0, 0, 1⟩

/-- The echo of RSTCLK 0xCAFEBEEF, the vectors' `E`. -/
def echo : RxAnswer := .full ⟨0x00, 0xCA, 0xFE, 0xBE, 0xEF⟩

/-- The probe reply, the vectors' `R`. -/
def reply : RxAnswer := .full ⟨0xE0, 0x7F, 0x0F, 0x55, 0x2A⟩

/-- What a vector shows: STATUS, SEQ, EVENT, the bytes written, the answers left unread. -/
def seen (o : Host.Outcome State Fault Refusal) :
    Option (BitVec 8 × BitVec 16 × BitVec 44 × List Byte × List RxAnswer) :=
  match o with
  | .next s => some (s.statusBits, s.seqBits, s.eventBits, s.tx, s.rx)
  | .fault _ | .refused _ => none

/-! ### The host operations -/

/-- A2: the second attempt matches. -/
theorem test_align_second_attempt :
    seen (exec (.align 0 0 0) (scripted [.empty, reply])) = some (0x46, 0x0050, 0, probes 2, []) := by decide

/-- A7: six empty reads, no seventh attempt, the reply is never read. -/
theorem test_align_fails :
    seen (exec (.align 0 0 0) (scripted (List.replicate 6 .empty ++ [reply]))) =
      some (0x9A, 0x0030, 0, probes 6, [reply]) := by decide

/-- W5: an empty read ends the wait, the later echo stays. -/
theorem test_rstclk_timeout :
    seen (exec (.rstclk 0 0 0xCAFEBEEF) (scripted (List.replicate 5 beat ++ [.empty, echo]))) =
      some (0x0A, 0x0140, 0, [0x00, 0xCA, 0xFE, 0xBE, 0xEF], [echo]) := by decide

/-- W3: 20 frames exhaust the wait, the 21st is never read. -/
theorem test_rstclk_exhausted :
    seen (exec (.rstclk 0 0 0xCAFEBEEF) (scripted (List.replicate 20 beat ++ [echo]))) =
      some (0x12, 0x0500, 0, [0x00, 0xCA, 0xFE, 0xBE, 0xEF], [echo]) := by decide

/-- E6: Port A is masked to 5 bits. -/
theorem test_setp_masks_port_a :
    seen (exec (.setp 0xFF 0x00 0) (scripted [])) = some (0x06, 0, 0, [0x04, 0x00, 0x00, 0x9F, 0x00], []) := by decide

/-- P2 step 4. -/
theorem test_setpb :
    seen (exec (.setpb 0 0xA5 0) (scripted [beat])) = some (0x06, 0, 0, [0x04, 0xA5, 0, 0, 0], [beat]) := by decide

/-- P3 step 2. -/
theorem test_sched :
    seen (exec (.sched 3 0 0x0004C4B4) (scripted [])) = some (0x06, 0, 0, [0xE3, 0x00, 0x04, 0xC4, 0xB4], []) := by decide

/-- M5: an unclassified frame is an event. -/
theorem test_rdmsg_unknown :
    seen (exec (.rdmsg 0 0 0) (scripted [.full ⟨0x30, 1, 2, 3, 4⟩])) = some (0x06, 0, 0x73001020304, [], []) := by decide

/-- M4: four bytes are no frame. -/
theorem test_rdmsg_short :
    seen (exec (.rdmsg 0 0 0) (scripted [.short4 0x10 0 1 0, beat])) = some (0x02, 0, 0, [], [beat]) := by decide

/-- X2. -/
theorem test_reservedOp0 : seen (exec (.reservedOp0 0 0 0) (scripted [beat])) = some (0x22, 0, 0, [], [beat]) := by decide

/-- X1. -/
theorem test_reservedOp1 : seen (exec (.reservedOp1 0 0 0) (scripted [beat])) = some (0x22, 0, 0, [], [beat]) := by decide

/-- R247. -/
theorem test_reservedOp2 : seen (exec (.reservedOp2 0x08 0 0 0) (scripted [beat])) = some (0x22, 0, 0, [], [beat]) := by decide

/-- R247. -/
theorem test_reservedOp3 : seen (exec (.reservedOp3 0x10 0 0 0) (scripted [beat])) = some (0x22, 0, 0, [], [beat]) := by decide

/-- R247. -/
theorem test_reservedOp4 : seen (exec (.reservedOp4 0x20 0 0 0) (scripted [beat])) = some (0x22, 0, 0, [], [beat]) := by decide

/-- R247. -/
theorem test_reservedOp5 : seen (exec (.reservedOp5 0x40 0 0 0) (scripted [beat])) = some (0x22, 0, 0, [], [beat]) := by decide

/-- X3. -/
theorem test_reservedOp6 : seen (exec (.reservedOp6 0xFF 0x12 0x34 0x56789ABC) (scripted [beat])) = some (0x22, 0, 0, [], [beat]) := by decide

/-! ### The frame rows -/

/-- E4. -/
theorem test_reset_writes : seen (exec (.reset 1) (scripted [beat])) = some (0, 0, 0, [0x00, 0x00, 0x00, 0x00, 0x01], [beat]) := by decide

/-- E8. -/
theorem test_setports_writes : seen (exec (.setports 5 0x0A) (scripted [beat])) = some (0, 0, 0, [0x04, 0x0A, 0x00, 0x85, 0x00], [beat]) := by decide

/-- E11. -/
theorem test_setportb_writes : seen (exec (.setportb 0) (scripted [beat])) = some (0, 0, 0, [0x04, 0x00, 0x00, 0x00, 0x00], [beat]) := by decide

/-- E12. -/
theorem test_schedule_writes : seen (exec (.schedule 4 1) (scripted [beat])) = some (0, 0, 0, [0xE4, 0x00, 0x00, 0x00, 0x01], [beat]) := by decide

/-- E17. -/
theorem test_probe_writes : seen (exec (.probe) (scripted [beat])) = some (0, 0, 0, [0x10, 0xE0, 0x7F, 0x0F, 0x55, 0x2A], [beat]) := by decide

/-- D1. -/
theorem test_heartbeat_event : seen (exec (.heartbeat 0 0x00010002) (scripted [beat])) = some (0, 0, 0x11000010002, [], [beat]) := by decide

/-- D4. -/
theorem test_input1_event : seen (exec (.input1 0xA 0x3D09) (scripted [beat])) = some (0, 0, 0x22A00003D09, [], [beat]) := by decide

/-- D6. -/
theorem test_input2_event : seen (exec (.input2 7 1 0x01020304) (scripted [beat])) = some (0, 0, 0x24F01020304, [], [beat]) := by decide

/-- D9. -/
theorem test_input3_event : seen (exec (.input3 0 7 0xFFFFFFFF) (scripted [beat])) = some (0, 0, 0x287FFFFFFFF, [], [beat]) := by decide

/-- D12. -/
theorem test_portsset_event : seen (exec (.portsset 0xAA 0x55 3 0x1F 0x77) (scripted [beat])) = some (0, 0, 0x304AA55FF77, [], [beat]) := by decide

/-- D14. -/
theorem test_portbset_event : seen (exec (.portbset 0xFF 0 0x1F 0) (scripted [beat])) = some (0, 0, 0x404FF001F00, [], [beat]) := by decide

/-- D16. -/
theorem test_resetecho_event : seen (exec (.resetecho ⟨0xCA, 0xFE, 0xBE, 0xEF⟩) (scripted [beat])) = some (0, 0, 0x500CAFEBEEF, [], [beat]) := by decide

/-- D18. -/
theorem test_schedout_event : seen (exec (.schedout 0 0x7F0F552A) (scripted [beat])) = some (0, 0, 0x6E07F0F552A, [], [beat]) := by decide

/-- D24. -/
theorem test_unknown0_event : seen (exec (.unknown0 0x01 ⟨0, 0, 0, 0⟩) (scripted [beat])) = some (0, 0, 0x70100000000, [], [beat]) := by decide

/-- R149. -/
theorem test_unknown1_event : seen (exec (.unknown1 0x06 ⟨0, 0, 0, 7⟩) (scripted [beat])) = some (0, 0, 0x70600000007, [], [beat]) := by decide

/-- D23. -/
theorem test_unknown2_event : seen (exec (.unknown2 0x08 ⟨0, 0, 0, 0⟩) (scripted [beat])) = some (0, 0, 0x70800000000, [], [beat]) := by decide

/-- D21. -/
theorem test_unknown3_event : seen (exec (.unknown3 0x30 ⟨1, 2, 3, 4⟩) (scripted [beat])) = some (0, 0, 0x73001020304, [], [beat]) := by decide

/-- R149. -/
theorem test_unknown4_event : seen (exec (.unknown4 0x50 ⟨0, 0, 0, 1⟩) (scripted [beat])) = some (0, 0, 0x75000000001, [], [beat]) := by decide

/-- D27. -/
theorem test_unknown5_event : seen (exec (.unknown5 0x60 ⟨0, 0, 0, 0⟩) (scripted [beat])) = some (0, 0, 0x76000000000, [], [beat]) := by decide

/-- D26. -/
theorem test_unknown6_event : seen (exec (.unknown6 0x90 ⟨0, 0, 0, 0⟩) (scripted [beat])) = some (0, 0, 0x79000000000, [], [beat]) := by decide

/-- R149. -/
theorem test_unknown7_event : seen (exec (.unknown7 0xA0 ⟨0, 0, 0, 2⟩) (scripted [beat])) = some (0, 0, 0x7A000000002, [], [beat]) := by decide

/-- D25. -/
theorem test_unknown8_event : seen (exec (.unknown8 0xC0 ⟨0, 0, 0, 0⟩) (scripted [beat])) = some (0, 0, 0x7C000000000, [], [beat]) := by decide

/-! ### Single steps, the HOST port, the clock model, the text -/

/-- R210 S1, from STATUS of R25: a write of ALIGN leaves BUSY alone set, PHASE ALIGN_TX. -/
theorem test_step_issues_align :
    seen (step { scripted [] with host := [.write 0 0x01000000000000] }) = some (0x01, 0x0001, 0, [], []) := by decide

/-- R50: reset in the middle of an operation clears the registers and keeps the streams. -/
theorem test_step_reset :
    seen (step { scripted [beat] with busy := true, phase := .ackRx, att := 3, tx := [0x04], host := [.reset] }) =
      some (0, 0, 0, [0x04], [beat]) := by decide

/-- A command word placed after reset: RDMSG with nothing to read (M2). -/
theorem test_withFetchWord_command :
    seen (step (State.reset.withFetchWord 56 0x06000000000000)) = some (0x02, 0, 0, [], []) := by decide

/-- The probe placed after reset (R210 S2: PHASE ALIGN_RX, ATT 1). -/
theorem test_withFetchWord_probe :
    (match step (State.reset.withFetchWord 48 0x10E07F0F552A) with
      | .next s => some (s.seqBits, s.tx)
      | .fault _ | .refused _ => none) = some (0x000A, [0x10, 0xE0, 0x7F, 0x0F, 0x55, 0x2A]) := by decide

/-- A frame placed after reset (M1, D1). -/
theorem test_withFetchWord_frame :
    seen (step (State.reset.withFetchWord 40 0x1000010002)) = some (0x06, 0, 0x11000010002, [], []) := by decide

/-- K1. -/
theorem test_ticks_to_seconds : ticksToSeconds (scripted []).cfg 0x00010002 = 65538 / 156250 := by
  rfl

/-- K9: the silent wrap. -/
theorem test_seconds_to_ticks_wraps : secondsToTicks (scripted []).cfg 30000 = some 0x176592E0 := by
  norm_num [secondsToTicks, roundNearest, scripted, at_]
  rfl

/-- P1, line 2. -/
theorem test_assembler : assembleLine (scripted []).cfg "RSTCLK 0xCAFEBEEF ; acknowledged".toList =
    some [0x020000CAFEBEEF] := by decide

/-- P2, line 1, in both spellings, and a comment line. -/
theorem test_assembler_call_form :
    assembleProgram (scripted []).cfg ["; ports".toList, "SETP 0x1F, 0xFF".toList, "setPorts(31, 255)".toList] =
      some [0x031FFF00000000, 0x031FFF00000000] := by decide

/-- R120 with R102: Port A 0xFF is written with PA[7:5] zero, in each of the four lines that have one. -/
theorem test_assembler_masks_port_a :
    assembleProgram (scripted []).cfg
      ["SETP 0xFF, 0".toList, "CANCEL 0xFF, 0".toList, "SCHED 0xE3, 7".toList] =
      some [0x031F0000000000, 0x031F0000000000, 0x05030000000007] := by
  decide

/-- R82, U12: an echo of set-ports is one with the ignored bits of bytes 2, 3 and 4 set, not one of other ports. -/
theorem test_echo_ignored_bits_are_free :
    Peer.mayEcho [0x04, 0xAA, 0x00, 0x95, 0x00] ⟨0x04, 0xAA, 0xFF, 0xF5, 0x01⟩ = true ∧
      Peer.mayEcho [0x04, 0xAA, 0x00, 0x95, 0x00] ⟨0x04, 0xAA, 0xFF, 0x75, 0x01⟩ = false := by decide

/-! ### Witnesses: a concrete state and operands that meet each statement's hypotheses

One theorem a statement, named after it; a statement of several clauses has a witness for each clause, at the
boundary of its range. -/

theorem witness_DecodeInvertsEncode : Instr.wf (.unknown8 0xDF ⟨1, 2, 3, 4⟩) = true := by decide

theorem witness_EncodeInvertsDecode :
    decode .host [0xFF, 1, 2, 3, 4, 5, 6] = .ok (.reservedOp6 0xFF 1 2 0x03040506) ∧
      decode .tx [0xE1, 0, 0, 0, 7] = .ok (.schedule 1 7) ∧ decode .rx [0xE1, 0, 0, 0, 7] = .ok (.schedout 1 7) := by
  decide

theorem witness_DecodersFollowTheOpcodeTable :
    (∃ row ∈ hostRows, row.mnemonic = "RESERVED_OP_6") ∧ (∃ row ∈ inboundRows, row.mnemonic = "UNKNOWN_8") ∧
      ∃ row ∈ outboundRows, row.width = 40 ∧ row.mnemonic = "SETPORTB" := by decide

theorem witness_ByteZeroClassCounts : (0x80 : Byte) ∈ [(0x00 : Byte), 0x80] := by decide

theorem witness_OutboundByteZeroIsNeverADeviceClass :
    Instr.port (.schedule 0x1F 0) = .tx ∧ Instr.frame? (.schedule 0x1F 0) = some ⟨0xFF, 0, 0, 0, 0⟩ := by decide

/-- One frame for each clause: D1, D3, D6, D9, D13, D14, D17, D18, D28. -/
theorem witness_EventViewsAreTheEventFields :
    [(⟨0x10, 0, 1, 0, 2⟩ : Frame), ⟨0x20, 0, 0, 0, 0⟩, ⟨0x4F, 1, 2, 3, 4⟩, ⟨0x87, 0, 0, 0, 5⟩, ⟨0x04, 0, 0, 0x80, 0⟩,
      ⟨0x04, 0xFF, 0, 0x1F, 0⟩, ⟨0, 0, 0, 0, 0⟩, ⟨0xE0, 0, 0, 0, 1⟩, ⟨0xDF, 0, 0, 0, 0⟩].map decodeEvent =
    [.clockHeartbeat 0x00010002, .input 1 none 0, .input 2 (some 0xE) 0x01020304, .input 3 (some 7) 5, .portsSet 0 0,
      .portBSet 0xFF, .resetEcho ⟨0, 0, 0, 0⟩, .scheduledOutput 0 1, .unknown ⟨0xDF, 0, 0, 0, 0⟩] := by decide

/-- Reset with the vectors' configuration and one request at the HOST port. -/
def asked (q : HostReq) : State := { scripted [] with host := [q] }

theorem witness_StatusRegisterLayout :
    (asked (.read 1)).host = .read 1 :: [] ∧ (asked (.write 1 5)).host = .write 1 5 :: [] := by decide

theorem witness_SequencerRegisterLayout : (asked (.read 2)).host = .read 2 :: [] := by decide

theorem witness_ExpectAndEventLayout :
    (asked (.read 3)).host = .read 3 :: [] ∧ (asked (.read 4)).host = .read 4 :: [] := by decide

theorem witness_HostMisuseIsRefused :
    ({ asked (.write 0 7) with busy := true }).host = .write 0 7 :: [] ∧
      ({ asked (.write 0 7) with busy := true }).busy = true ∧
      (asked (.write 1 7)).host = .write 1 7 :: [] ∧ (asked (.write 4 7)).host = .write 4 7 :: [] ∧
      (asked (.write 5 7)).host = .write 5 7 :: [] ∧ (asked (.read 0)).host = .read 0 :: [] ∧
      (asked (.read 5)).host = .read 5 :: [] := by decide

theorem witness_HostOperationsAreRefusedWhileBusy :
    IsHostOp (.rdmsg 0 0 0) ∧ ({ scripted [] with busy := true }).busy = true := ⟨rfl, rfl⟩

theorem witness_SendOperationsCompleteAtOnce : (scripted []).busy = false := by decide

/-- A match on the 20th read, an empty 20th read, 20 misses. -/
theorem witness_RstclkReportsTheResultOfItsWait :
    (scripted (List.replicate 19 beat ++ [.full (encReset 1)])).busy = false ∧ (1 : Tick) ≠ 0 ∧
      upcoming (scripted (List.replicate 19 beat ++ [.full (encReset 1)])) 20 =
        List.replicate 19 beat ++ [.full (encReset 1)] ∧
      MatchedWait (encReset 1) 20 (List.replicate 19 beat ++ [.full (encReset 1)]) ∧
      upcoming (scripted (List.replicate 19 beat)) 20 = List.replicate 19 beat ++ [.empty] ∧
      EmptyWait (encReset 1) 20 (List.replicate 19 beat ++ [.empty]) ∧
      upcoming (scripted (List.replicate 20 beat)) 20 = List.replicate 20 beat ∧
      ExhaustedWait (encReset 1) 20 (List.replicate 20 beat) := by
  have miss : ∀ n, ∀ r ∈ List.replicate n beat, Miss (encReset 1) r := by
    intro n r h
    rw [List.eq_of_mem_replicate h]
    exact ⟨by decide, by decide⟩
  exact ⟨by decide, by decide, by decide, ⟨_, rfl, by decide, miss 19⟩, by decide, ⟨_, rfl, by decide, miss 19⟩,
    by decide, ⟨by decide, miss 20⟩⟩

/-- The limits 1 and 31, with each result at each of them. -/
theorem witness_BoundedWaitReturns :
    upcoming (scripted [echo]) 1 = [echo] ∧ MatchedWait ⟨0x00, 0xCA, 0xFE, 0xBE, 0xEF⟩ 1 [echo] ∧
      EmptyWait probeReply 1 [.empty] ∧ ExhaustedWait probeReply 1 [.short4 0xE0 0x7F 0x0F 0x55] ∧
      upcoming (scripted (List.replicate 30 beat ++ [reply])) 31 = List.replicate 30 beat ++ [reply] ∧
      MatchedWait probeReply 31 (List.replicate 30 beat ++ [reply]) ∧
      EmptyWait probeReply 31 (List.replicate 30 beat ++ [.empty]) ∧
      ExhaustedWait probeReply 31 (List.replicate 31 beat) := by
  have miss : ∀ n, ∀ r ∈ List.replicate n beat, Miss probeReply r := by
    intro n r h
    rw [List.eq_of_mem_replicate h]
    exact ⟨by decide, by decide⟩
  refine ⟨by decide, ⟨[], rfl, by decide, by simp⟩, ⟨[], rfl, by decide, by simp⟩, ⟨by decide, ?_⟩, by decide,
    ⟨_, rfl, by decide, miss 30⟩, ⟨_, rfl, by decide, miss 30⟩, ⟨by decide, miss 31⟩⟩
  intro r h
  rw [List.mem_singleton.mp h]
  exact ⟨by decide, by decide⟩

/-- No failed attempt before the match (A1), and five of them (A6). -/
theorem witness_AlignSucceedsOnTheMatchingAttempt :
    (scripted [reply]).busy = false ∧ (scripted [reply]).cfg.wf ∧ upcoming (scripted [reply]) 1 = [reply] ∧
      MatchedWait probeReply 20 [reply] ∧
      (∀ b ∈ List.replicate 5 [RxAnswer.empty], FailedAttempt 20 b) ∧
      upcoming (scripted (List.replicate 5 .empty ++ [reply])) 6 =
        (List.replicate 5 [RxAnswer.empty]).flatten ++ [reply] := by
  refine ⟨by decide, by decide, by decide, ⟨[], rfl, by decide, by simp⟩, ?_, by decide⟩
  intro b h
  rw [List.eq_of_mem_replicate h]
  exact .inl ⟨[], rfl, by decide, by simp⟩

/-- A7, and A12's exhausted attempts under the limit 1. -/
theorem witness_AlignFailsAfterSixAttempts :
    (scripted []).busy = false ∧ (scripted []).cfg.wf ∧
      (∀ b ∈ List.replicate 6 [RxAnswer.empty], FailedAttempt 20 b) ∧
      upcoming (scripted []) 6 = (List.replicate 6 [RxAnswer.empty]).flatten ∧
      (at_ 1 []).cfg.wf ∧ (∀ b ∈ List.replicate 6 [beat], FailedAttempt 1 b) ∧
      upcoming (at_ 1 (List.replicate 6 beat)) 6 = (List.replicate 6 [beat]).flatten := by
  refine ⟨by decide, by decide, ?_, by decide, by decide, ?_, by decide⟩
  · intro b h
    rw [List.eq_of_mem_replicate h]
    exact .inl ⟨[], rfl, by decide, by simp⟩
  · intro b h
    rw [List.eq_of_mem_replicate h]
    refine .inr ⟨by decide, fun r hr => ?_⟩
    rw [List.mem_singleton.mp hr]
    exact ⟨by decide, by decide⟩

theorem witness_AlignAlwaysEnds :
    (at_ 1 []).busy = false ∧ (at_ 1 []).cfg.wf ∧ (at_ 31 [beat]).busy = false ∧ (at_ 31 [beat]).cfg.wf := by decide

theorem witness_RdmsgReturnsTheNextFrameOrNothing :
    (scripted []).busy = false ∧ nextAnswer (scripted [reply]) = .full probeReply ∧
      nextAnswer (scripted []) = .empty ∧ nextAnswer (scripted [.short4 1 2 3 4]) = .short4 1 2 3 4 := by decide

/-- The reserved codes at the ends of the two ranges. -/
theorem witness_ReservedCodesReportIllegalOp :
    (scripted []).busy = false ∧ (scripted []).phase = .idle ∧
      (0x00000000000001#56).extractLsb 55 48 = 0x00 ∧ 0x07 ≤ ((0x07000000000000#56).extractLsb 55 48).toNat ∧
      0x07 ≤ ((0xFF000000000000#56).extractLsb 55 48).toNat := by decide

theorem witness_ReservedRowsComplete : (scripted [beat]).busy = false := by decide

/-- What an outcome reports: OK and the cause code. -/
def reported (o : Host.Outcome State Fault Refusal) : Option (Bool × ErrCode) :=
  match o with
  | .next s => some (s.ok, s.err)
  | .fault _ | .refused _ => none

/-- Every result a clause names: success, RDMSG's silent 0, each of the four causes. -/
theorem witness_OperationsEndReported :
    (scripted []).cfg.wf ∧ IsHostOp (.align 0 0 0) ∧ Instr.wf (.reservedOp2 0x0F 0 0 0) = true ∧
      reported (exec (.setp 1 2 0) (scripted [])) = some (true, .none) ∧
      reported (exec (.rdmsg 0 0 0) (scripted [])) = some (false, .none) ∧
      reported (exec (.rstclk 0 0 1) (scripted [])) = some (false, .timeout) ∧
      reported (exec (.rstclk 0 0 1) (scripted (List.replicate 20 beat))) = some (false, .exhausted) ∧
      reported (exec (.align 0 0 0) (scripted [])) = some (false, .alignFail) ∧
      reported (exec (.reservedOp2 0x0F 0 0 0) (scripted [])) = some (false, .illegalOp) :=
  ⟨by decide, rfl, by decide, by decide, by decide, by decide, by decide, by decide, by decide⟩

theorem witness_HostOperationFrames :
    (∃ t, exec (.align 0 0 0) (scripted [reply]) = .next t) ∧ (∃ t, exec (.rstclk 0 0 0) (scripted []) = .next t) ∧
      (∃ t, exec (.rstclk 0 0 1) (scripted []) = .next t) ∧ (∃ t, exec (.setp 1 2 3) (scripted []) = .next t) ∧
      (∃ t, exec (.setpb 1 2 3) (scripted []) = .next t) ∧ (∃ t, exec (.sched 1 2 3) (scripted []) = .next t) ∧
      (∃ t, exec (.rdmsg 1 2 3) (scripted []) = .next t) ∧ ∃ t, exec (.reservedOp0 1 2 3) (scripted []) = .next t :=
  ⟨⟨_, rfl⟩, ⟨_, rfl⟩, ⟨_, rfl⟩, ⟨_, rfl⟩, ⟨_, rfl⟩, ⟨_, rfl⟩, ⟨_, rfl⟩, ⟨_, rfl⟩⟩

theorem witness_TransactionBounds :
    IsHostOp (.rstclk 0 0 0) ∧ (scripted []).cfg.wf ∧ ∃ t, exec (.rstclk 0 0 0) (scripted []) = .next t :=
  ⟨rfl, by decide, _, rfl⟩

/-- Two histories with one script: never aligned, and failed with an event held. -/
theorem witness_OperationsIgnoreAlignmentAndHistory :
    IsHostOp (.rdmsg 0 0 0) ∧ (scripted [beat]).busy = false ∧
      ({ scripted [beat] with align := .failed, event := ⟨.unknown, ⟨0x30, 0, 0, 0, 0⟩⟩ } : State).busy = false ∧
      ({ scripted [beat] with align := .failed } : State).cfg = (scripted [beat]).cfg ∧
      ({ scripted [beat] with align := .failed } : State).rx = (scripted [beat]).rx :=
  ⟨rfl, by decide, by decide, by decide, by decide⟩

/-- M7. -/
theorem witness_TornFrameIsNeverStitched :
    (scripted [.short3 0x10 0 1, .full ⟨0, 2, 0x20, 0, 0⟩]).busy = false ∧
      (∀ g, RxAnswer.short3 0x10 0 1 ≠ .full g) ∧
      (scripted [.short3 0x10 0 1, .full ⟨0, 2, 0x20, 0, 0⟩]).rx =
        .short3 0x10 0 1 :: .full ⟨0, 2, 0x20, 0, 0⟩ :: [] :=
  ⟨by decide, nofun, by decide⟩

/-- What may come before an owed reply: heartbeats, an input, both echoes, a scheduled output; 19 frames in all. -/
def between : List Frame :=
  List.replicate 15 ⟨0x10, 0, 0, 0, 1⟩ ++
    [⟨0x40, 0, 0, 0, 2⟩, ⟨0x04, 1, 2, 0xFF, 3⟩, ⟨0x04, 1, 2, 0x7F, 3⟩, ⟨0xFF, 0, 0, 0, 4⟩]

/-- 19 frames, then the owed reply, as many answers as the limit allows, for RSTCLK and for ALIGN. -/
theorem witness_ContractKeepingPeerIsAcknowledged :
    (scripted []).busy = false ∧ (scripted []).cfg.wf ∧ (1 : Tick) ≠ 0 ∧
      Peer.answersInTurn (encReset 1).bytes (between.map .full ++ [.full (encReset 1)]) ∧
      upcoming (scripted (between.map .full ++ [.full (encReset 1)])) 20 = between.map .full ++ [.full (encReset 1)] ∧
      Peer.answersInTurn probeBytes (between.map .full ++ [reply]) ∧
      upcoming (scripted (between.map .full ++ [reply])) 20 = between.map .full ++ [reply] :=
  ⟨by decide, by decide, by decide, ⟨between, encReset 1, by decide, by decide, rfl⟩, by decide,
    ⟨between, probeReply, by decide, by decide, rfl⟩, by decide⟩

theorem witness_InboundRowsDeliverTheirEvent :
    Instr.port (.unknown3 0x3F ⟨1, 2, 3, 4⟩) = .rx ∧ Instr.wf (.unknown3 0x3F ⟨1, 2, 3, 4⟩) = true ∧
      Instr.frame? (.unknown3 0x3F ⟨1, 2, 3, 4⟩) = some ⟨0x3F, 1, 2, 3, 4⟩ := by decide

theorem witness_FrameRowsLeaveTheRest :
    Instr.port .probe ≠ .host ∧ (∃ t, exec .probe (scripted []) = .next t) ∧
      Instr.port (.heartbeat 0 1) ≠ .host ∧ ∃ t, exec (.heartbeat 0 1) (scripted []) = .next t :=
  ⟨by decide, ⟨_, rfl⟩, by decide, ⟨_, rfl⟩⟩

theorem witness_StepRunsTheCalledWord :
    (asked (.call 0x0400A500000000)).host = .call 0x0400A500000000 :: [] ∧
      decodeTableWord 56 (0x0400A500000000#56).toNat = some (.setpb 0 0xA5 0) ∧
      (asked (.call 0x0400A500000000)).busy = false ∧
      ({ asked (.call 0x0400A500000000) with busy := true }).busy = true := by decide

/-- An operation in progress in a phase, with a latch and a script. -/
def inPhase (p : Phase) (c : Command) (rx : List RxAnswer) : State :=
  { scripted rx with busy := true, phase := p, cmd := c }

theorem witness_StepRunsTheInboundFrame :
    (inPhase .msgRx ⟨6, 0, 0, 0⟩ [reply]).host = [] ∧ (inPhase .msgRx ⟨6, 0, 0, 0⟩ [reply]).phase = .msgRx ∧
      nextAnswer (inPhase .msgRx ⟨6, 0, 0, 0⟩ [reply]) = .full probeReply ∧
      decode .rx probeReply.bytes = .ok (.schedout 0 0x7F0F552A) := by decide

theorem witness_StepWritesTheLatchedFrame :
    (inPhase .alignTx ⟨1, 0, 0, 0⟩ []).host = [] ∧ (inPhase .alignTx ⟨1, 0, 0, 0⟩ []).phase = .alignTx ∧
      ∀ c ∈ [(⟨2, 0, 0, 1⟩ : Command), ⟨2, 0, 0, 0⟩, ⟨3, 1, 2, 0⟩, ⟨4, 0, 2, 0⟩, ⟨5, 1, 0, 9⟩],
        (inPhase .cmdTx c []).phase = .cmdTx ∧ (inPhase .cmdTx c []).cmd = c := by decide

/-- Each operation code a clause names, and the idle clause. -/
theorem witness_StepIssuesTheWrittenCommand :
    (asked (.write 0 0x01000000000000)).host = .write 0 0x01000000000000 :: [] ∧
      (asked (.write 0 0x01000000000000)).busy = false ∧
      [0x01000000000000#56, 0x02000000000000, 0x05000000000000, 0x06000000000000, 0x00000000000000,
        0x07000000000000, 0xFF000000000000].map (fun w => (Command.ofBits w).op) = [1, 2, 5, 6, 0, 7, 0xFF] ∧
      (scripted []).host = [] ∧ (scripted []).phase = .idle := by decide

/-- ALIGN inside an attempt: a script, the counters, the probe reply expected. -/
def inAttempt (rx : List RxAnswer) (att : BitVec 3) (cnt : BitVec 5) : State :=
  { inPhase .alignRx ⟨1, 0, 0, 0⟩ rx with expect := probeReply, att := att, cnt := cnt }

/-- The six rows, the attempts at 5 and 6, the count one and two below the limit of 20. -/
theorem witness_StepReadsInAnAlignmentAttempt :
    (inAttempt [reply] 1 0).host = [] ∧ (inAttempt [reply] 1 0).phase = .alignRx ∧
      nextAnswer (inAttempt [reply] 1 0) = .full (inAttempt [reply] 1 0).expect ∧
      nextAnswer (inAttempt [] 5 0) = .empty ∧ (inAttempt [] 5 0).att.toNat < 6 ∧ (inAttempt [] 6 0).att = 6 ∧
      Miss (inAttempt [beat] 5 18).expect (nextAnswer (inAttempt [beat] 5 18)) ∧
      (inAttempt [beat] 5 18).cnt.toNat + 1 < (inAttempt [beat] 5 18).cfg.alignWaitFrames ∧
      (inAttempt [beat] 5 19).cnt.toNat + 1 = (inAttempt [beat] 5 19).cfg.alignWaitFrames ∧
      (inAttempt [beat] 5 19).cfg.alignWaitFrames ≤ 31 ∧ (inAttempt [beat] 6 19).att = 6 :=
  ⟨by decide, by decide, by decide, by decide, by decide, by decide, ⟨by decide, by decide⟩, by decide, by decide,
    by decide, by decide⟩

/-- RSTCLK inside its wait. -/
def inWait (rx : List RxAnswer) (cnt : BitVec 5) : State :=
  { inPhase .ackRx ⟨2, 0, 0, 1⟩ rx with expect := encReset 1, cnt := cnt }

/-- The four rows, the count one and two below the limit. -/
theorem witness_StepReadsInTheAcknowledgementWait :
    (inWait [.full (encReset 1)] 0).host = [] ∧ (inWait [.full (encReset 1)] 0).phase = .ackRx ∧
      nextAnswer (inWait [.full (encReset 1)] 0) = .full (inWait [.full (encReset 1)] 0).expect ∧
      nextAnswer (inWait [] 3) = .empty ∧ Miss (inWait [beat] 18).expect (nextAnswer (inWait [beat] 18)) ∧
      (inWait [beat] 18).cnt.toNat + 1 < 20 ∧ (inWait [beat] 19).cnt.toNat + 1 = 20 :=
  ⟨by decide, by decide, by decide, by decide, ⟨by decide, by decide⟩, by decide, by decide⟩

theorem witness_StepReadsTheMessage :
    (inPhase .msgRx ⟨6, 0, 0, 0⟩ [reply]).host = [] ∧ (inPhase .msgRx ⟨6, 0, 0, 0⟩ [reply]).phase = .msgRx ∧
      nextAnswer (inPhase .msgRx ⟨6, 0, 0, 0⟩ [reply]) = .full probeReply ∧
      nextAnswer (inPhase .msgRx ⟨6, 0, 0, 0⟩ [.short4 1 2 3 4]) = .short4 1 2 3 4 := by decide

theorem witness_FetchedTableWordIsRunNext :
    decodeTableWord 56 0x06000000000000 = some (.rdmsg 0 0 0) ∧
      decodeTableWord 40 0x0000000000 = some (.resetecho ⟨0, 0, 0, 0⟩) ∧
      (⟨0, 0, 0, 0, 0⟩ : Frame).bits = BitVec.ofNat 40 0x0000000000 ∧
      decodeTableWord 40 0xFF01020304 = some (.schedout 0x1F 0x01020304) ∧
      (⟨0xFF, 1, 2, 3, 4⟩ : Frame).bits = BitVec.ofNat 40 0xFF01020304 ∧
      decodeTableWord 48 0x10E07F0F552A = some .probe := by decide

theorem witness_ResetClearsRegistersAndTouchesNoStream : (asked .reset).host = .reset :: [] := by decide

/-- RSTCLK 1 after its frame was written and three heartbeats read: a state the invariant holds in. -/
def midWait : State :=
  { inWait [beat] 3 with
    rx := [beat], tx := (encReset 1).bytes,
    trace := [.tx (encReset 1).bytes, .rx 5 beat, .rx 5 beat, .rx 5 beat] }

theorem midWait_inv : Inv midWait where
  config := by decide
  busy_iff := by decide
  busy_clear := by decide
  phase_fits := by simp [PhaseInv, midWait, inWait, inPhase, awaitsAck, maxWaitFrames]
  err_fits := trivial
  silent_failure := by decide
  att_range := by decide
  wait_range := .inr (by decide)
  event_fits := .inl rfl
  trace_lawful := by
    intro e h
    simp only [midWait, List.mem_cons, List.not_mem_nil, or_false] at h
    rcases h with rfl | rfl | rfl | rfl
    · exact .inr (.inl ⟨_, rfl⟩)
    all_goals rfl
  tx_fits := ⟨[], by decide⟩

theorem witness_EveryStepKeepsTheInvariant : Inv midWait ∧ ∃ t, step midWait = .next t := ⟨midWait_inv, _, rfl⟩

/-- Nothing at the HOST port: the contract holds of itself. -/
theorem witness_NoStuckStateUnderTheContract : Inv midWait ∧ HostKeepsContract midWait :=
  ⟨midWait_inv, fun _ h => by cases h⟩

/-- The bound of R211 is met with equality: 1 + 6 * 21 steps under the default limit. -/
theorem witness_SingleStepsRefineTheOperation :
    (scripted [beat]).busy = false ∧ (scripted [beat]).cfg.wf ∧ (scripted [beat]).host = [] ∧
      stepBound (scripted [beat]) ≤ 127 := by decide

/-- A state without history, in any phase that fits its latch, meets the invariant. -/
theorem inv_without_history {s : State} (hc : s.cfg.wf) (hb : s.busy = true ↔ s.phase ≠ .idle) (hp : PhaseInv s)
    (hr : (s.done, s.ok, s.err, s.att, s.cnt, s.expect, s.event, s.trace) =
      (false, false, .none, 0, 0, Frame.zero, EventReg.zero, [])) : Inv s := by
  simp only [Prod.mk.injEq] at hr
  obtain ⟨h1, h2, h3, h4, h5, h6, h7, h8⟩ := hr
  exact ⟨hc, hb, fun _ => ⟨h1, h2, h3⟩, hp, by simp [ErrInv, h3], by simp [h1], by simp [h4],
    .inr (by simp [h5, h6, Frame.zero]), .inl h7, by simp [h8], s.tx, by simp [h8, txBytes]⟩

/-- ALIGN issued where the last one failed. -/
def alignAgain : State := { asked (.write 0 0x01000000000000) with align := .failed }

/-- RDMSG about to read a frame. -/
def aboutToRead : State := inPhase .msgRx ⟨6, 0, 0, 0⟩ [reply]

/-- A step of RSTCLK's wait changes CNT; ALIGN's issue changes ALIGN; RDMSG's read changes EVENT. -/
theorem witness_OnlyTheOwnerWritesARegister :
    (Inv midWait ∧ midWait.host.head? ≠ some .reset ∧ ∃ t, step midWait = .next t ∧ t.cnt ≠ midWait.cnt) ∧
      (Inv alignAgain ∧ alignAgain.host.head? ≠ some .reset ∧
        ∃ t, step alignAgain = .next t ∧ t.align ≠ alignAgain.align) ∧
      Inv aboutToRead ∧ aboutToRead.host.head? ≠ some .reset ∧
        ∃ t, step aboutToRead = .next t ∧ t.event ≠ aboutToRead.event :=
  ⟨⟨midWait_inv, by decide, _, rfl, by decide⟩,
    ⟨inv_without_history (by decide) (by decide) trivial rfl, by decide, _, rfl, by decide⟩,
    inv_without_history (by decide) (by decide) rfl rfl, by decide, _, rfl, by decide⟩

theorem witness_StreamsOnlyMoveForward :
    (∃ t, step midWait = .next t) ∧ midWait.host.head? ≠ some .reset ∧ (asked .reset).host.head? = some .reset ∧
      ∃ t, step (asked .reset) = .next t :=
  ⟨⟨_, rfl⟩, by decide, by decide, _, rfl⟩

theorem witness_TickSurvivesTheSecondsProjection : 0 < (scripted []).cfg.tickRate := by decide

/-- K13's tie, and a negative value. -/
theorem witness_SecondsRoundToTheNearestTick : (0 : ℚ) ≤ 32 / 10000000 ∧ (-1 : ℚ) < 0 := by norm_num

end Sys2Proof.Tests
end

section
/-!
SUPPORT. The arithmetic reading of the big-endian helpers, and the statement on them (R11).
-/

namespace Sys2Proof

/-- Appending `y` below `x` weighs `x` with the width of `y`. -/
theorem toNat_append_eq_mul_add {m n : Nat} (x : BitVec m) (y : BitVec n) :
    (x ++ y).toNat = x.toNat * 2 ^ n + y.toNat := by
  rw [BitVec.toNat_append, ← Nat.shiftLeft_add_eq_or_of_lt y.isLt, Nat.shiftLeft_eq]

/-- The bytes of `be32` under the inclusive bit ranges of R11. -/
theorem be32_eq_extractLsb (v : Tick) :
    be32 v = ⟨v.extractLsb 31 24, v.extractLsb 23 16, v.extractLsb 15 8, v.extractLsb 7 0⟩ := rfl

/-- `u32` reads its four bytes as digits in base 256, the first the most significant (R11). -/
theorem u32_toNat (p : Payload) :
    (u32 p).toNat = p.b1.toNat * 2 ^ 24 + p.b2.toNat * 2 ^ 16 + p.b3.toNat * 2 ^ 8 + p.b4.toNat := by
  calc (u32 p).toNat
    _ = ((p.b1.toNat * 2 ^ 8 + p.b2.toNat) * 2 ^ 8 + p.b3.toNat) * 2 ^ 8 + p.b4.toNat := by
      simp only [u32, toNat_append_eq_mul_add]
    _ = p.b1.toNat * 2 ^ 24 + p.b2.toNat * 2 ^ 16 + p.b3.toNat * 2 ^ 8 + p.b4.toNat := by ring

/-- Settles O1: the split is `be32_eq_extractLsb`, the weighted join `u32_toNat`, the round trip `u32_be32`. -/
theorem bigEndianSplitAndJoin : Obligations.BigEndianSplitAndJoin :=
  ⟨be32_eq_extractLsb, u32_toNat, u32_be32⟩

end Sys2Proof
end

section
/-!
SUPPORT. What each row of the table does, said once a format: a host row is its body run from the issue, an outbound
row is the write of its bytes, an inbound row is the delivery of its frame.
-/

namespace Sys2Proof.Machine

/-! ### The host rows -/

/-- What the operation of a host row does between its issue and its report (R241 to R247); nothing for a frame row. -/
def hostBody : Instr → State → State
  | .align _ _ _ => alignProcedure
  | .rstclk _ _ arg => rstclkBody arg
  | .setp pa pb _ => sendBody (encSetPorts pa pb)
  | .setpb _ pb _ => sendBody (encSetPortB pb)
  | .sched pa _ arg => sendBody (encSchedule pa arg)
  | .rdmsg _ _ _ => rdmsgBody
  | .reservedOp0 _ _ _ | .reservedOp1 _ _ _ | .reservedOp2 _ _ _ _ | .reservedOp3 _ _ _ _ | .reservedOp4 _ _ _ _
  | .reservedOp5 _ _ _ _ | .reservedOp6 _ _ _ _ => illegalBody
  | _ => id

/-- A host row is its body in the frame of every operation (R240). -/
theorem exec_eq_operate {i : Instr} {c : Command} (h : i.command? = some c) (s : State) :
    exec i s = operate c (hostBody i) s := by
  cases i
  case align | rstclk | setp | setpb | sched | rdmsg | reservedOp0 | reservedOp1 | reservedOp2 | reservedOp3
    | reservedOp4 | reservedOp5 | reservedOp6 => cases h; rfl
  all_goals cases h

/-- Every host row stands for a command word. -/
theorem exists_command?_of_isHostOp {i : Instr} (h : IsHostOp i) : ∃ c, i.command? = some c := by
  cases i
  case align | rstclk | setp | setpb | sched | rdmsg | reservedOp0 | reservedOp1 | reservedOp2 | reservedOp3
    | reservedOp4 | reservedOp5 | reservedOp6 => exact ⟨_, rfl⟩
  all_goals cases h

/-- The row decoded from a word stands for that word. -/
theorem command?_decodeCommand (c : Command) : (decodeCommand c).command? = some c := by
  unfold decodeCommand
  iterate 8
    refine ite_property (P := fun i : Instr => i.command? = some c) (fun h => ?_) fun _ => ?_
    · simp only [Instr.command?, ← h]
  iterate 4 refine ite_property (P := fun i : Instr => i.command? = some c) (fun _ => rfl) fun _ => ?_
  rfl

/-- The operation of a word, by its operation code (R101, R111). -/
theorem hostBody_decodeCommand (c : Command) :
    (c.op = 0x01 ∧ hostBody (decodeCommand c) = alignProcedure) ∨
      (c.op = 0x02 ∧ hostBody (decodeCommand c) = rstclkBody c.arg) ∨
      (∃ f, LawfulWrite f.bytes ∧ hostBody (decodeCommand c) = sendBody f) ∨
      (c.op = 0x06 ∧ hostBody (decodeCommand c) = rdmsgBody) ∨
      (reservedOp c.op = true ∧ hostBody (decodeCommand c) = illegalBody) := by
  rw [op_defined_or_reserved]
  by_cases h1 : c.op = 0x01
  · exact .inl ⟨h1, by simp [decodeCommand, h1, hostBody]⟩
  by_cases h2 : c.op = 0x02
  · exact .inr (.inl ⟨h2, by simp [decodeCommand, h2, hostBody]⟩)
  by_cases h3 : c.op = 0x03
  · exact .inr (.inr (.inl ⟨_, .inr (.inr (.inl ⟨c.pa, c.pb, rfl⟩)), by simp [decodeCommand, h3, hostBody]⟩))
  by_cases h4 : c.op = 0x04
  · exact .inr (.inr (.inl ⟨_, .inr (.inr (.inr (.inl ⟨c.pb, rfl⟩))), by simp [decodeCommand, h4, hostBody]⟩))
  by_cases h5 : c.op = 0x05
  · exact .inr (.inr (.inl ⟨_, .inr (.inr (.inr (.inr ⟨c.pa, c.arg, rfl⟩))), by simp [decodeCommand, h5, hostBody]⟩))
  by_cases h6 : c.op = 0x06
  · exact .inr (.inr (.inr (.inl ⟨h6, by simp [decodeCommand, h6, hostBody]⟩)))
  · refine .inr (.inr (.inr (.inr ⟨⟨h1, h2, h3, h4, h5, h6⟩, ?_⟩)))
    rw [decodeCommand, if_neg h1, if_neg h2, if_neg h3, if_neg h4, if_neg h5, if_neg h6]
    iterate 6 refine ite_property (P := (hostBody · = _)) (fun _ => rfl) fun _ => ?_
    rfl

/-! ### The outbound rows -/

/-- An outbound row is one write of its bytes (R201). -/
theorem exec_outbound {i : Instr} (h : i.port = .tx) (s : State) : exec i s = .next (txWrite (encode i) s) := by
  cases i
  case reset | setports | setportb | schedule | probe => rfl
  all_goals cases h

/-- The bytes of an outbound row are what LSYNC may write (R103). -/
theorem lawfulWrite_encode {i : Instr} (h : i.port = .tx) : LawfulWrite (encode i) := by
  cases i
  case reset ack => exact .inr (.inl ⟨ack, rfl⟩)
  case setports a b => exact .inr (.inr (.inl ⟨a.setWidth 8, b, rfl⟩))
  case setportb b => exact .inr (.inr (.inr (.inl ⟨b, rfl⟩)))
  case schedule a at_ => exact .inr (.inr (.inr (.inr ⟨a.setWidth 8, at_, rfl⟩)))
  case probe => exact .inl rfl
  all_goals cases h

/-- What the latch holds to be written is an outbound row. -/
theorem port_latchFrame {c : Command} {i : Instr} (h : latchFrame c = some i) : i.port = .tx := by
  unfold latchFrame at h
  split_ifs at h <;> cases h <;> rfl

/-! ### The inbound rows -/

/-- The class an inbound row delivers its frame under (R141 to R149); NONE for the other rows. -/
def eventTag : Instr → Tag
  | .heartbeat _ _ => .heartbeat
  | .input1 _ _ | .input2 _ _ _ | .input3 _ _ _ => .input
  | .portsset _ _ _ _ _ => .portsSet
  | .portbset _ _ _ _ => .portBSet
  | .resetecho _ => .resetEcho
  | .schedout _ _ => .schedOut
  | .unknown0 _ _ | .unknown1 _ _ | .unknown2 _ _ | .unknown3 _ _ | .unknown4 _ _ | .unknown5 _ _ | .unknown6 _ _
  | .unknown7 _ _ | .unknown8 _ _ => .unknown
  | _ => .none

/-- An inbound row is the delivery of its frame under its class (R246). -/
theorem exec_inbound {i : Instr} {f : Frame} (hp : i.port = .rx) (hf : i.frame? = some f) (s : State) :
    exec i s = .next (deliver (eventTag i) f s) := by
  cases i
  case heartbeat | input1 | input2 | input3 | portsset | portbset | resetecho | schedout | unknown0 | unknown1
    | unknown2 | unknown3 | unknown4 | unknown5 | unknown6 | unknown7 | unknown8 => cases hf; rfl
  all_goals cases hp

/-- Two chains of tests that agree on the test are walked together. -/
theorem ite_property₂ {α β : Type} {P : α → β → Prop} {c : Prop} [Decidable c] {x y : α} {x' y' : β}
    (hx : c → P x x') (hy : ¬ c → P y y') : P (if c then x else y) (if c then x' else y') := by
  by_cases h : c <;> simp [h, hx, hy]

/-- A row reads a frame as an event: it is the row of that very frame, no bit dropped, under the class of the event. -/
def ReadsAs (f : Frame) (i : Instr) (e : Event) : Prop := i.port = .rx ∧ i.frame? = some f ∧ eventTag i = e.tag

/-- The row decoded from a frame reads it as the event of `decode(f)` (R107, R140 to R149). -/
theorem decodeInbound_readsAs_decodeEvent (f : Frame) : ReadsAs f (decodeInbound f) (decodeEvent f) := by
  obtain ⟨beat, in1, in2, in3, -, -, sched, -⟩ := byte_of_fields f.b0
  obtain ⟨-, -, -, -, ports, portB, -, -⟩ := byte_of_fields f.b3
  have joined {b : Byte} (h : b = f.b0) : some ((be32 (u32 f.payload)).withByte0 b) = some f := by
    rw [be32_u32, h]; rfl
  unfold decodeInbound decodeEvent
  refine ite_property₂ (fun h => ⟨rfl, joined (beat h), rfl⟩) fun _ => ?_
  refine ite_property₂ (fun h => ⟨rfl, joined (in1 h), rfl⟩) fun _ => ?_
  refine ite_property₂ (fun h => ⟨rfl, joined (in2 h), rfl⟩) fun _ => ?_
  refine ite_property₂ (fun h => ⟨rfl, joined (in3 h), rfl⟩) fun _ => ?_
  refine ite_property₂ (fun h => ite_property₂ (fun h3 => ⟨rfl, ?_, rfl⟩) fun h3 => ⟨rfl, ?_, rfl⟩) fun _ => ?_
  · simp only [Instr.frame?, ports h3, ← h]
  · simp only [Instr.frame?, portB (not_not.mp h3), ← h]
  refine ite_property₂ (fun h => ⟨rfl, ?_, rfl⟩) fun _ => ?_
  · simp only [Instr.frame?, ← h]; rfl
  refine ite_property₂ (fun h => ⟨rfl, joined (sched h), rfl⟩) fun _ => ?_
  iterate 8 refine ite_property (P := (ReadsAs f · _)) (fun _ => ⟨rfl, rfl, rfl⟩) fun _ => ?_
  exact ⟨rfl, rfl, rfl⟩

/-- Running the row decoded from a frame delivers that frame under the class of its event. -/
theorem exec_decodeInbound (f : Frame) (s : State) :
    exec (decodeInbound f) s = .next (deliver (decodeEvent f).tag f s) := by
  obtain ⟨hp, hf, ht⟩ := decodeInbound_readsAs_decodeEvent f
  rw [exec_inbound hp hf, ht]

end Sys2Proof.Machine
end

section
/-!
SUPPORT. What one step of the machine can do, said once: the requests at the HOST port, the rows of the step table, and
the five kinds of step.
-/

namespace Sys2Proof.Machine

/-! ### The step, by the next request at the HOST port -/

section Requests
variable {s : State} {rest : List HostReq}

theorem step_nil (h : s.host = []) : step s = sequence s := by simp only [step, machineStep, h]

theorem step_call {w : BitVec 56} (h : s.host = .call w :: rest) : step s = hostCall w rest s := by
  simp only [step, machineStep, h]

theorem step_write {cr : Nat} {w : BitVec 56} (h : s.host = .write cr w :: rest) :
    step s = hostWrite cr w { s with host := rest } := by
  simp only [step, machineStep, h]

theorem step_read {cr : Nat} (h : s.host = .read cr :: rest) : step s = hostRead cr { s with host := rest } := by
  simp only [step, machineStep, h]

theorem step_reset (h : s.host = .reset :: rest) : step s = .next (platformReset { s with host := rest }) := by
  simp only [step, machineStep, h]

theorem step_pass (h : s.host = .pass :: rest) : step s = sequence { s with host := rest } := by
  simp only [step, machineStep, h]

end Requests

/-! ### What a request that is served answers -/

/-- A write that is served is the issue of a command. -/
theorem hostWrite_next {cr : Nat} {w : BitVec 56} {s t : State} (h : hostWrite cr w s = .next t) :
    s.busy = false ∧ t = issueStep (Command.ofBits w) s := by
  unfold hostWrite at h
  split_ifs at h with _ hb
  cases h
  exact ⟨by simpa using hb, rfl⟩

/-- A read that is served delivers a value and changes nothing else. -/
theorem hostRead_next {cr : Nat} {s t : State} (h : hostRead cr s = .next t) :
    ∃ v, t = { s with hostOut := some v } := by
  unfold hostRead at h
  split at h <;> cases h
  exact ⟨_, rfl⟩

/-- A called word is its operation, run from the issue. -/
theorem exec_decodeHostWord (w : BitVec 56) (s : State) :
    exec (decodeHostWord w) s = operate (Command.ofBits w) (hostBody (decodeCommand (Command.ofBits w))) s :=
  exec_eq_operate (command?_decodeCommand _) s

/-! ### The rows of the step table -/

/-- S2: the probe is written and counted, and its wait armed. -/
theorem alignTxStep_eq (s : State) :
    alignTxStep s = .next { armWait probeReply (countAttempt (txWrite probeBytes s)) with phase := .alignRx } := rfl

/-- S10, S11: the write of an outbound row, and what follows it. -/
theorem cmdTxStep_next {s t : State} (h : cmdTxStep s = .next t) :
    ∃ i, latchFrame s.cmd = some i ∧ t = afterCommandWrite (txWrite (encode i) s) := by
  unfold cmdTxStep at h
  cases hi : latchFrame s.cmd with
  | none => rw [hi] at h; cases h
  | some i =>
    simp only [hi, exec_outbound (port_latchFrame hi), onNext] at h
    cases h
    exact ⟨i, rfl, rfl⟩

/-- S17, S18: the single read of RDMSG is the whole body of RDMSG. -/
theorem msgRxStep_eq (s : State) : msgRxStep s = .next (rdmsgBody s) := by
  unfold msgRxStep rdmsgBody
  cases nextAnswer s with
  | full f => simp only [exec_decodeInbound, onNext, takeMessage]
  | _ => rfl

/-- S3 to S8: the wait goes on, matches, fails for the sixth time, or fails and is tried again. -/
theorem alignRxStep_cases (s : State) :
    (turnVerdict s.cfg.alignWaitFrames s = none ∧ alignRxStep s = waitTurn s) ∨
      alignRxStep s = alignSuccess (waitTurn s) ∨
      (s.att.toNat = maxAlignAttempts ∧ alignRxStep s = alignFailure (waitTurn s)) ∨
      (s.att.toNat ≠ maxAlignAttempts ∧ alignRxStep s = { waitTurn s with phase := .alignTx }) := by
  unfold alignRxStep
  rcases turnVerdict s.cfg.alignWaitFrames s with _ | w
  · exact .inl ⟨rfl, rfl⟩
  · cases w with
    | matched => exact .inr (.inl rfl)
    | empty | exhausted =>
      by_cases ha : s.att.toNat = maxAlignAttempts
      · exact .inr (.inr (.inl ⟨ha, if_pos ha⟩))
      · exact .inr (.inr (.inr ⟨ha, if_neg ha⟩))

/-- S12 to S15: the wait goes on, or its result is reported. -/
theorem ackRxStep_cases (s : State) :
    (turnVerdict maxWaitFrames s = none ∧ ackRxStep s = waitTurn s) ∨
      ∃ w, ackRxStep s = reportAck (w, waitTurn s) := by
  unfold ackRxStep
  cases turnVerdict maxWaitFrames s with
  | none => exact .inl ⟨rfl, rfl⟩
  | some w => exact .inr ⟨w, rfl⟩

/-- What the sequencer did, by the phase it was in (R210). -/
inductive Transaction (s : State) : State → Prop
  | wait : s.phase = .idle → Transaction s s
  | probe : s.phase = .alignTx →
      Transaction s { armWait probeReply (countAttempt (txWrite probeBytes s)) with phase := .alignRx }
  | readReply : s.phase = .alignRx → Transaction s (alignRxStep s)
  | writeFrame (i : Instr) : s.phase = .cmdTx → latchFrame s.cmd = some i →
      Transaction s (afterCommandWrite (txWrite (encode i) s))
  | readAck : s.phase = .ackRx → Transaction s (ackRxStep s)
  | readMessage : s.phase = .msgRx → Transaction s (rdmsgBody s)

theorem sequence_next {s t : State} (h : sequence s = .next t) : Transaction s t := by
  unfold sequence at h
  cases hp : s.phase <;> rw [hp] at h
  case idle => cases h; exact .wait hp
  case alignTx => rw [alignTxStep_eq] at h; cases h; exact .probe hp
  case alignRx => cases h; exact .readReply hp
  case cmdTx => obtain ⟨i, hi, rfl⟩ := cmdTxStep_next h; exact .writeFrame i hp hi
  case ackRx => cases h; exact .readAck hp
  case msgRx => rw [msgRxStep_eq] at h; cases h; exact .readMessage hp

/-! ### The step -/

/-- The five kinds of step. What the HOST port's list holds after it is left open: the block does not depend on it. -/
inductive StepKind (s : State) : State → Prop
  /-- The platform asserted reset. -/
  | reset (host : List HostReq) : s.host.head? = some .reset → StepKind s (platformReset { s with host := host })
  /-- The host read a register. -/
  | observed (host : List HostReq) (out : Option (BitVec 56)) : StepKind s { s with host := host, hostOut := out }
  /-- The host wrote a command, which was issued. -/
  | issued (host : List HostReq) (c : Command) : s.busy = false → StepKind s (issueStep c { s with host := host })
  /-- The host called an operation, which ran from issue to report. -/
  | called (host : List HostReq) (c : Command) : s.busy = false →
      StepKind s (hostBody (decodeCommand c) (issue c { s with host := host }))
  /-- The sequencer made its next transaction. -/
  | sequenced {t : State} (host : List HostReq) : Transaction { s with host := host } t → StepKind s t

theorem step_next {s t : State} (h : step s = .next t) : StepKind s t := by
  cases hh : s.host with
  | nil =>
    rw [step_nil hh] at h
    exact .sequenced s.host (sequence_next h)
  | cons q rest =>
    cases q with
    | call w =>
      rw [step_call hh, hostCall] at h
      split_ifs at h
      · exact .sequenced s.host (sequence_next h)
      · rw [exec_decodeHostWord] at h
        obtain ⟨hb, rfl⟩ := operate_next h
        exact .called rest _ hb
    | write cr w =>
      rw [step_write hh] at h
      obtain ⟨hb, rfl⟩ := hostWrite_next h
      exact .issued rest _ hb
    | read cr =>
      rw [step_read hh] at h
      obtain ⟨v, rfl⟩ := hostRead_next h
      exact .observed rest _
    | reset =>
      rw [step_reset hh] at h
      cases h
      exact .reset rest (by rw [hh]; rfl)
    | pass =>
      rw [step_pass hh] at h
      exact .sequenced rest (sequence_next h)

end Sys2Proof.Machine
end

section
/-!
SUPPORT. What a wait, the alignment procedure and the operations leave unchanged, and the statement on the frames of the
host operations (R51, R33).
-/

namespace Sys2Proof.Machine

/-! ### The wait -/

/-- A wait leaves everything but `EXPECT`, `CNT`, the RX stream and TRACE, which grows by its reads (R203). -/
theorem waitReply_frame (expect : Frame) (limit : Nat) (s : State) :
    ∃ rs cnt, (waitReply expect limit s).2 = { afterReads rs s with expect := expect, cnt := cnt } ∧
      rs.length ≤ limit := by
  obtain ⟨rs, cnt, h, hl⟩ := waitLoop_frame limit limit (armWait expect s)
  exact ⟨rs, cnt, h, hl⟩

/-- An attempt counts itself and leaves everything else but the wait's registers and the streams (R204). -/
theorem alignAttempt_frame (s : State) :
    ∃ rs cnt, (alignAttempt s).2 = { afterReads rs (txWrite probeBytes s) with
      att := s.att + 1, expect := probeReply, cnt := cnt } := by
  obtain ⟨rs, cnt, h, -⟩ :=
    waitReply_frame probeReply s.cfg.alignWaitFrames (countAttempt (txWrite probeBytes s))
  exact ⟨rs, cnt, h⟩

/-- `ATT` counts the attempt and does not wrap (R28, R196). -/
theorem alignAttempt_att {s : State} (h : s.att.toNat < maxAlignAttempts) :
    (alignAttempt s).2.att.toNat = s.att.toNat + 1 := by
  obtain ⟨rs, cnt, hu⟩ := alignAttempt_frame s
  rw [hu]
  exact BitVec.toNat_add_of_lt (Nat.lt_of_le_of_lt (Nat.succ_le_of_lt h) (by decide))

/-! ### The alignment procedure -/

/-- One attempt of the loop: it succeeds, is the last to fail, or is followed by the rest of the loop (R204). -/
theorem alignLoop_succ_cases (fuel : Nat) (s : State) :
    alignLoop (fuel + 1) s = alignSuccess (alignAttempt s).2 ∨
      ((alignAttempt s).2.att.toNat = maxAlignAttempts ∧
        alignLoop (fuel + 1) s = alignFailure (alignAttempt s).2) ∨
      ((alignAttempt s).2.att.toNat ≠ maxAlignAttempts ∧
        alignLoop (fuel + 1) s = alignLoop fuel (alignAttempt s).2) := by
  by_cases hm : (alignAttempt s).1 = .matched
  · exact .inl (alignLoop_succeeds (Prod.ext hm rfl))
  · have h := alignLoop_retries (fuel := fuel) (t := (alignAttempt s).2) rfl hm
    by_cases ha : (alignAttempt s).2.att.toNat = maxAlignAttempts
    · exact .inr (.inl ⟨ha, by rw [h, if_pos ha]⟩)
    · exact .inr (.inr ⟨ha, by rw [h, if_neg ha]⟩)

/-- The loop of R204 ends in a success or after the sixth attempt, in a state of any property that attempts keep. -/
theorem alignLoop_induction {P : State → Prop}
    (attempt : ∀ u, P u → u.att.toNat < maxAlignAttempts → P (alignAttempt u).2) {fuel : Nat} {s : State} (hs : P s)
    (hf : s.att.toNat + (fuel + 1) = maxAlignAttempts) :
    ∃ u, P u ∧ (alignLoop (fuel + 1) s = alignSuccess u ∨
      u.att.toNat = maxAlignAttempts ∧ alignLoop (fuel + 1) s = alignFailure u) := by
  induction fuel generalizing s with
  | zero =>
    have hu := attempt s hs (by omega)
    have ha : (alignAttempt s).2.att.toNat = maxAlignAttempts := by rw [alignAttempt_att (by omega), ← hf]
    rcases alignLoop_succ_cases 0 s with h | h | ⟨hne, -⟩
    · exact ⟨_, hu, .inl h⟩
    · exact ⟨_, hu, .inr h⟩
    · exact absurd ha hne
  | succ n ih =>
    have hu := attempt s hs (by omega)
    rcases alignLoop_succ_cases (n + 1) s with h | h | ⟨-, h⟩
    · exact ⟨_, hu, .inl h⟩
    · exact ⟨_, hu, .inr h⟩
    · rw [h]
      exact ih hu (by rw [alignAttempt_att (by omega)]; omega)

/-- ALIGN ends in a success or after the sixth attempt, in a state of any property that attempts keep (R204, R241). -/
theorem alignProcedure_induction {P : State → Prop} {s : State} (start : P (startAlign s))
    (attempt : ∀ u, P u → u.att.toNat < maxAlignAttempts → P (alignAttempt u).2) :
    ∃ u, P u ∧ (alignProcedure s = alignSuccess u ∨
      u.att.toNat = maxAlignAttempts ∧ alignProcedure s = alignFailure u) :=
  alignLoop_induction attempt start rfl

/-- What ALIGN leaves unchanged once it is issued (R51). -/
theorem alignProcedure_frame (s : State) :
    (alignProcedure s).cfg = s.cfg ∧ (alignProcedure s).host = s.host ∧ (alignProcedure s).hostOut = s.hostOut ∧
      (alignProcedure s).cmd = s.cmd ∧ (alignProcedure s).event = s.event := by
  obtain ⟨u, hu, h⟩ := alignProcedure_induction (s := s)
    (P := fun u => u.cfg = s.cfg ∧ u.host = s.host ∧ u.hostOut = s.hostOut ∧ u.cmd = s.cmd ∧ u.event = s.event)
    ⟨rfl, rfl, rfl, rfl, rfl⟩ fun u hu _ => by
      obtain ⟨rs, cnt, h⟩ := alignAttempt_frame u
      rw [h]
      exact hu
  rcases h with h | ⟨-, h⟩ <;> rw [h] <;> exact hu

/-! ### The other operations -/

/-- RSTCLK's result is reported with OK, or as one of its two causes (R242). -/
theorem reportAck_reports (r : WaitResult × State) :
    ∃ o e, reportAck r = report o e r.2 ∧ (o = true ∧ e = .none ∨ o = false ∧ (e = .timeout ∨ e = .exhausted)) := by
  obtain ⟨w, u⟩ := r
  cases w
  case matched => exact ⟨_, _, rfl, .inl ⟨rfl, rfl⟩⟩
  case empty => exact ⟨_, _, rfl, .inr ⟨rfl, .inl rfl⟩⟩
  case exhausted => exact ⟨_, _, rfl, .inr ⟨rfl, .inr rfl⟩⟩

/-- What RSTCLK leaves unchanged once it is issued; without a wait it reads nothing either (R51, R242). -/
theorem rstclkBody_frame (arg : Tick) (s : State) :
    (rstclkBody arg s).cfg = s.cfg ∧ (rstclkBody arg s).host = s.host ∧ (rstclkBody arg s).hostOut = s.hostOut ∧
      (rstclkBody arg s).cmd = s.cmd ∧ (rstclkBody arg s).event = s.event ∧ (rstclkBody arg s).align = s.align ∧
      (rstclkBody arg s).att = s.att ∧
      (arg = 0 → (rstclkBody arg s).expect = s.expect ∧ (rstclkBody arg s).cnt = s.cnt ∧
        (rstclkBody arg s).rx = s.rx) := by
  unfold rstclkBody
  split_ifs with h0
  · exact ⟨rfl, rfl, rfl, rfl, rfl, rfl, rfl, fun _ => ⟨rfl, rfl, rfl⟩⟩
  · obtain ⟨o, e, hr, -⟩ := reportAck_reports
      (waitReply (encReset arg) maxWaitFrames (txWrite (encReset arg).bytes s))
    obtain ⟨rs, cnt, hw, -⟩ := waitReply_frame (encReset arg) maxWaitFrames (txWrite (encReset arg).bytes s)
    rw [hr, hw]
    exact ⟨rfl, rfl, rfl, rfl, rfl, rfl, rfl, fun h => absurd h h0⟩

/-- A message is an event under its class and a report of 1, or no event and a report of 0 without a cause (R246). -/
theorem takeMessage_cases (r : RxAnswer) (s : State) :
    (∃ f, r = .full f ∧ takeMessage r s = report true .none (deliver (decodeEvent f).tag f s)) ∨
      takeMessage r s = report false .none (clearEvent s) := by
  cases r with
  | full f => exact .inl ⟨f, rfl, rfl⟩
  | _ => exact .inr rfl

/-- What RDMSG leaves unchanged once it is issued (R51, R246). -/
theorem rdmsgBody_frame (s : State) :
    (rdmsgBody s).cfg = s.cfg ∧ (rdmsgBody s).host = s.host ∧ (rdmsgBody s).hostOut = s.hostOut ∧
      (rdmsgBody s).cmd = s.cmd ∧ (rdmsgBody s).align = s.align ∧ (rdmsgBody s).att = s.att ∧
      (rdmsgBody s).cnt = s.cnt ∧ (rdmsgBody s).expect = s.expect ∧ (rdmsgBody s).tx = s.tx := by
  unfold rdmsgBody
  rcases takeMessage_cases (nextAnswer s) (rxRead s) with ⟨f, -, h⟩ | h <;> rw [h] <;>
    exact ⟨rfl, rfl, rfl, rfl, rfl, rfl, rfl, rfl, rfl⟩

/-- A host row that answers a next state is its body run from the issue. -/
theorem exec_next {i : Instr} {s t : State} (hi : IsHostOp i) (h : exec i s = .next t) :
    ∃ c, i.command? = some c ∧ s.busy = false ∧ t = hostBody i (issue c s) := by
  obtain ⟨c, hc⟩ := exists_command?_of_isHostOp hi
  rw [exec_eq_operate hc] at h
  exact ⟨c, hc, operate_next h⟩

/-- Settles O28, by the frame of each body: `alignProcedure_frame`, `rstclkBody_frame`, `rdmsgBody_frame`; the other
bodies are a write and a report, or a report alone. -/
theorem hostOperationFrames : Obligations.HostOperationFrames := by
  intro i s t hi ht
  obtain ⟨c, -, -, rfl⟩ := exec_next hi ht
  cases i
  case align =>
    obtain ⟨hcfg, hhost, hout, -, hevent⟩ := alignProcedure_frame (issue c s)
    exact ⟨hcfg, hhost, hout, hevent⟩
  case rstclk pa pb arg =>
    obtain ⟨hcfg, hhost, hout, -, hrest⟩ := rstclkBody_frame arg (issue c s)
    exact ⟨hcfg, hhost, hout, hrest⟩
  case setp | setpb | sched => exact ⟨rfl, rfl, rfl, rfl, rfl, rfl, rfl, rfl, rfl⟩
  case rdmsg =>
    obtain ⟨hcfg, hhost, hout, -, hrest⟩ := rdmsgBody_frame (issue c s)
    exact ⟨hcfg, hhost, hout, hrest⟩
  case reservedOp0 | reservedOp1 | reservedOp2 | reservedOp3 | reservedOp4 | reservedOp5 | reservedOp6 =>
    exact ⟨rfl, rfl, rfl, rfl, rfl, rfl, rfl, rfl, rfl, rfl, rfl⟩
  all_goals cases hi

end Sys2Proof.Machine
end

section
/-!
SUPPORT. The invariant of the machine. `Standing` is the part of `Inv` that names no operation: the transactions keep
it, one lemma each. A step ends in an operation that is running, or in one that has reported; each gives `Inv` from
`Standing`.
-/

namespace Sys2Proof.Machine

variable {s : State}

/-! ### The part of the invariant that names no operation -/

/-- What holds of the registers and the streams whatever the latch, the phase and the flags are. -/
structure Standing (s : State) : Prop where
  config : s.cfg.wf
  att_range : s.att.toNat ≤ maxAlignAttempts
  wait_range : (s.expect = probeReply ∧ s.cnt.toNat ≤ s.cfg.alignWaitFrames) ∨
    (s.expect.b0 = 0x00 ∧ s.cnt.toNat ≤ maxWaitFrames)
  event_fits : s.event = EventReg.zero ∨ s.event.tag = (decodeEvent s.event.raw).tag
  trace_lawful : ∀ e ∈ s.trace, LawfulEvent e
  tx_fits : ∃ before, s.tx = before ++ txBytes s.trace

theorem Inv.standing (h : Inv s) : Standing s :=
  ⟨h.config, h.att_range, h.wait_range, h.event_fits, h.trace_lawful, h.tx_fits⟩

namespace Standing

/-- Nothing else of the state matters. -/
theorem congr {t : State} (h : Standing s)
    (e : (t.cfg, t.att, t.expect, t.cnt, t.event, t.trace, t.tx) =
      (s.cfg, s.att, s.expect, s.cnt, s.event, s.trace, s.tx)) : Standing t := by
  simp only [Prod.mk.injEq] at e
  obtain ⟨h1, h2, h3, h4, h5, h6, h7⟩ := e
  constructor <;> simp only [h1, h2, h3, h4, h5, h6, h7]
  exacts [h.config, h.att_range, h.wait_range, h.event_fits, h.trace_lawful, h.tx_fits]

/-- A lawful event may be traced, with the bytes it stands for. -/
theorem record (h : Standing s) {e : TraceEvent} (he : LawfulEvent e) :
    Standing { s with trace := s.trace ++ [e], tx := s.tx ++ txBytes [e] } where
  config := h.config
  att_range := h.att_range
  wait_range := h.wait_range
  event_fits := h.event_fits
  trace_lawful x hx := by
    rcases List.mem_append.1 hx with hx | hx
    · exact h.trace_lawful x hx
    · rw [List.mem_singleton.1 hx]; exact he
  tx_fits := by
    obtain ⟨before, hb⟩ := h.tx_fits
    exact ⟨before, by simp [hb, txBytes]⟩

theorem txWrite (h : Standing s) {bs : List Byte} (hbs : LawfulWrite bs) : Standing (txWrite bs s) :=
  (h.record (e := .tx bs) hbs).congr (by simp [txBytes])

theorem rxRead (h : Standing s) : Standing (rxRead s) :=
  (h.record (e := .rx frameLen (nextAnswer s)) rfl).congr (by simp [txBytes])

theorem deliver (h : Standing s) (f : Frame) : Standing (deliver (decodeEvent f).tag f s) :=
  { h.record (e := .ev (decodeEvent f).tag f) rfl with
    event_fits := .inr rfl
    tx_fits := by simpa [txBytes] using h.tx_fits }

theorem clearEvent (h : Standing s) : Standing (clearEvent s) := { h with event_fits := .inl rfl }

theorem startAlign (h : Standing s) : Standing (startAlign s) := { h with att_range := Nat.zero_le _ }

theorem countAttempt (h : Standing s) (ha : s.att.toNat < maxAlignAttempts) : Standing (countAttempt s) :=
  { h with
    att_range := by
      rw [countAttempt_att, BitVec.toNat_add_of_lt (Nat.lt_of_le_of_lt (Nat.succ_le_of_lt ha) (by decide))]
      exact ha }

theorem report (h : Standing s) (o : Bool) (e : ErrCode) : Standing (report o e s) := h.congr rfl

theorem issue (h : Standing s) (c : Command) : Standing (issue c s) := h.congr rfl

end Standing

/-! ### A wait in progress -/

/-- A wait of the machine that has not come to its limit: `EXPECT` is the pattern the limit belongs to (R29, R30). -/
structure InWait (limit : Nat) (s : State) : Prop where
  standing : Standing s
  pattern : s.expect = probeReply ∧ limit = s.cfg.alignWaitFrames ∨ s.expect.b0 = 0x00 ∧ limit = maxWaitFrames
  below : s.cnt.toNat < limit

namespace InWait

variable {limit : Nat}

/-- The wait of an alignment attempt, as it starts (R204). -/
theorem probe (h : Standing s) : InWait s.cfg.alignWaitFrames (armWait probeReply s) where
  standing := { h with wait_range := .inl ⟨rfl, Nat.zero_le _⟩ }
  pattern := .inl ⟨rfl, rfl⟩
  below := h.config.2.1

/-- The acknowledgement wait, as it starts (R242). -/
theorem ack (h : Standing s) (arg : Tick) : InWait maxWaitFrames (armWait (encReset arg) s) where
  standing := { h with wait_range := .inr ⟨rfl, Nat.zero_le _⟩ }
  pattern := .inr ⟨rfl, rfl⟩
  below := show (0 : BitVec 5).toNat < maxWaitFrames by decide

/-- `CNT` does not wrap (R29, R196). -/
theorem cnt_succ (h : InWait limit s) : (s.cnt + 1).toNat = s.cnt.toNat + 1 := by
  have hl : limit ≤ 31 := by
    rcases h.pattern with ⟨-, hl⟩ | ⟨-, hl⟩ <;> rw [hl]
    · exact h.standing.config.2.2
    · decide
  exact BitVec.toNat_add_of_lt (Nat.lt_of_le_of_lt (Nat.succ_le_of_lt (Nat.lt_of_lt_of_le h.below hl)) (by decide))

theorem countRead (h : InWait limit s) : Standing (countRead s) :=
  { h.standing with
    wait_range := by
      have hb := h.below
      rw [countRead_cnt, h.cnt_succ]
      rcases h.pattern with ⟨he, hl⟩ | ⟨he, hl⟩
      · exact .inl ⟨he, hl ▸ hb⟩
      · exact .inr ⟨he, hl ▸ hb⟩ }

theorem rxRead (h : InWait limit s) : InWait limit (rxRead s) := ⟨h.standing.rxRead, h.pattern, h.below⟩

/-- One turn of a wait keeps what stands. -/
theorem waitTurn (h : InWait limit s) : Standing (waitTurn s) := by
  rcases waitTurn_eq s with ⟨e, -⟩ | ⟨e, -⟩ <;> rw [e]
  · exact h.rxRead.standing
  · exact h.rxRead.countRead

/-- A wait that goes on is still below its limit. -/
theorem waitTurn_of_goes_on (h : InWait limit s) (hv : turnVerdict limit s = none) :
    InWait limit (Machine.waitTurn s) where
  standing := h.waitTurn
  pattern := by simpa using h.pattern
  below := by
    obtain ⟨hc, hne, -⟩ := turn_goes_on hv
    have hb := h.below
    rw [h.cnt_succ] at hne
    rw [hc, h.cnt_succ]
    omega

/-- A whole wait keeps what stands. -/
theorem waitLoop (h : InWait limit s) (fuel : Nat) : Standing (waitLoop limit fuel s).2 := by
  induction fuel generalizing s with
  | zero => exact h.standing
  | succ n ih =>
    cases hv : turnVerdict limit s with
    | none => rw [waitLoop_goes_on hv]; exact ih (h.waitTurn_of_goes_on hv)
    | some w => rw [waitLoop_ends hv]; exact h.waitTurn

end InWait

/-- An alignment attempt keeps what stands, as long as `ATT` has room for it (R204). -/
theorem Standing.alignAttempt (h : Standing s) (ha : s.att.toNat < maxAlignAttempts) :
    Standing (alignAttempt s).2 :=
  (InWait.probe ((h.txWrite (.inl rfl)).countAttempt ha)).waitLoop _

/-! ### An operation that is running, and one that has reported -/

/-- The flags of an operation in progress (R25). -/
def Running (s : State) : Prop := s.busy = true ∧ s.done = false ∧ s.ok = false ∧ s.err = .none

theorem Inv.running (h : Inv s) (hp : s.phase ≠ .idle) : Running s :=
  ⟨h.busy_iff.2 hp, h.busy_clear (h.busy_iff.2 hp)⟩

theorem Running.waitTurn (h : Running s) : Running (waitTurn s) := by simpa [Running] using h

/-- Where an operation is running, the invariant is what stands and what its phase says. -/
theorem Inv.of_running (h : Standing s) (hr : Running s) (hp : s.phase ≠ .idle) (hfit : PhaseInv s) : Inv s := by
  obtain ⟨hbusy, hdone, hok, herr⟩ := hr
  exact
    { config := h.config
      busy_iff := ⟨fun _ => hp, fun _ => hbusy⟩
      busy_clear := fun _ => ⟨hdone, hok, herr⟩
      phase_fits := hfit
      err_fits := by simp only [ErrInv, herr]
      silent_failure := fun hd => by simp [hdone] at hd
      att_range := h.att_range
      wait_range := h.wait_range
      event_fits := h.event_fits
      trace_lawful := h.trace_lawful
      tx_fits := h.tx_fits }

/-- Where an operation has reported, the invariant is what stands and what the report says of the latch. -/
theorem Inv.of_report {o : Bool} {e : ErrCode} (h : Standing s) (herr : ErrInv (report o e s))
    (hsilent : o = false → e = .none → s.cmd.op = 0x06) : Inv (report o e s) where
  config := h.config
  busy_iff := by simp
  busy_clear := by simp
  phase_fits := trivial
  err_fits := herr
  silent_failure _ := hsilent
  att_range := h.att_range
  wait_range := h.wait_range
  event_fits := h.event_fits
  trace_lawful := h.trace_lawful
  tx_fits := h.tx_fits

/-- Success may be reported by any operation (R271). -/
theorem Inv.of_success (h : Standing s) : Inv (report true .none s) := .of_report h trivial nofun

theorem Inv.alignSuccess (h : Standing s) : Inv (alignSuccess s) := .of_success (h.congr rfl)

theorem Inv.alignFailure (h : Standing s) (hop : s.cmd.op = 0x01) (ha : s.att.toNat = maxAlignAttempts) :
    Inv (alignFailure s) :=
  .of_report (h.congr rfl) ⟨hop, rfl, rfl, ha⟩ nofun

/-- The result of an acknowledgement wait is reported by the operation that waits (R242, R271). -/
theorem Inv.reportAck {r : WaitResult × State} (h : Standing r.2) (hw : awaitsAck r.2.cmd = true) :
    Inv (reportAck r) := by
  obtain ⟨o, e, hr, ⟨rfl, rfl⟩ | ⟨rfl, rfl | rfl⟩⟩ := reportAck_reports r <;> rw [hr]
  · exact .of_success h
  · exact .of_report h ⟨hw, rfl⟩ nofun
  · exact .of_report h ⟨hw, rfl⟩ nofun

theorem awaitsAck_iff {c : Command} : awaitsAck c = true ↔ c.op = 0x02 ∧ c.arg ≠ 0 := by simp [awaitsAck]

/-! ### The operations, from issue to report -/

theorem Inv.alignProcedure (h : Standing s) (hop : s.cmd.op = 0x01) : Inv (alignProcedure s) := by
  have attempt (u : State) (hu : Standing u ∧ u.cmd.op = 0x01) (ha : u.att.toNat < maxAlignAttempts) :
      Standing (alignAttempt u).2 ∧ (alignAttempt u).2.cmd.op = 0x01 := by
    obtain ⟨rs, cnt, e⟩ := alignAttempt_frame u
    exact ⟨hu.1.alignAttempt ha, by rw [e]; exact hu.2⟩
  obtain ⟨u, ⟨hu, huop⟩, e | ⟨ha, e⟩⟩ := alignProcedure_induction (s := s) ⟨h.startAlign, hop⟩ attempt <;> rw [e]
  · exact .alignSuccess hu
  · exact .alignFailure hu huop ha

theorem Inv.rstclkBody (h : Standing s) (hop : s.cmd.op = 0x02) : Inv (rstclkBody s.cmd.arg s) := by
  have hsent := h.txWrite (.inr (.inl ⟨s.cmd.arg, rfl⟩))
  unfold Machine.rstclkBody
  split_ifs with h0
  · exact .of_success hsent
  · refine .reportAck ((InWait.ack hsent _).waitLoop _) ?_
    obtain ⟨rs, cnt, e, -⟩ :=
      waitReply_frame (encReset s.cmd.arg) maxWaitFrames (Machine.txWrite (encReset s.cmd.arg).bytes s)
    rw [e]
    exact awaitsAck_iff.2 ⟨hop, h0⟩

theorem Inv.rdmsgBody (h : Standing s) (hop : s.cmd.op = 0x06) : Inv (rdmsgBody s) := by
  unfold Machine.rdmsgBody
  rcases takeMessage_cases (nextAnswer s) (Machine.rxRead s) with ⟨f, -, e⟩ | e <;> rw [e]
  · exact .of_success (h.rxRead.deliver f)
  · exact .of_report h.rxRead.clearEvent trivial fun _ _ => hop

theorem Inv.illegalBody (h : Standing s) (hop : reservedOp s.cmd.op = true) : Inv (illegalBody s) :=
  .of_report h ⟨hop, rfl⟩ nofun

/-- A called operation ends in a state that meets the invariant. -/
theorem Inv.called (h : Standing s) (c : Command) : Inv (hostBody (decodeCommand c) (issue c s)) := by
  rcases hostBody_decodeCommand c with ⟨hop, e⟩ | ⟨hop, e⟩ | ⟨f, hf, e⟩ | ⟨hop, e⟩ | ⟨hop, e⟩ <;> rw [e]
  · exact .alignProcedure (h.issue c) hop
  · exact .rstclkBody (h.issue c) hop
  · exact .of_success ((h.issue c).txWrite hf)
  · exact .rdmsgBody (h.issue c) hop
  · exact .illegalBody (h.issue c) hop

/-! ### The issue of a command -/

/-- S1, S9, S16, S19: what the issue of a command leads to. -/
theorem issueStep_cases (c : Command) (s : State) :
    (c.op = 0x01 ∧ issueStep c s = { startAlign (issue c s) with phase := .alignTx }) ∨
      (reservedOp c.op = true ∧ issueStep c s = illegalBody (issue c s)) ∨
      (c.op = 0x06 ∧ issueStep c s = { issue c s with phase := .msgRx }) ∨
      ((latchFrame c).isSome = true ∧ issueStep c s = { issue c s with phase := .cmdTx }) := by
  by_cases h1 : c.op = 0x01
  · exact .inl ⟨h1, by simp only [issueStep, h1, if_true]⟩
  by_cases hr : reservedOp c.op = true
  · exact .inr (.inl ⟨hr, by rw [issueStep, if_neg h1, if_pos hr]; rfl⟩)
  by_cases h6 : c.op = 0x06
  · exact .inr (.inr (.inl ⟨h6, by rw [issueStep, if_neg h1, if_neg hr, if_pos h6]⟩))
  · refine .inr (.inr (.inr ⟨?_, by rw [issueStep, if_neg h1, if_neg hr, if_neg h6]⟩))
    rw [op_defined_or_reserved] at hr
    unfold latchFrame
    split_ifs with h2 h3 h4 h5
    iterate 4 · rfl
    · exact absurd ⟨h1, h2, h3, h4, h5, h6⟩ hr

theorem Inv.issueStep (h : Standing s) (c : Command) : Inv (issueStep c s) := by
  have hrun : Running (issue c s) := ⟨rfl, rfl, rfl, rfl⟩
  rcases issueStep_cases c s with ⟨hop, e⟩ | ⟨hop, e⟩ | ⟨hop, e⟩ | ⟨hop, e⟩ <;> rw [e]
  · exact .of_running ((h.issue c).startAlign.congr rfl) hrun nofun
      ⟨hop, rfl, show (0 : BitVec 3).toNat < maxAlignAttempts by decide⟩
  · exact .illegalBody (h.issue c) hop
  · exact .of_running ((h.issue c).congr rfl) hrun nofun hop
  · exact .of_running ((h.issue c).congr rfl) hrun nofun hop

/-! ### What the phase says, phase by phase -/

theorem phaseInv_alignTx (hp : s.phase = .alignTx) :
    PhaseInv s ↔ s.cmd.op = 0x01 ∧ s.align = .probing ∧ s.att.toNat < maxAlignAttempts := by
  simp only [PhaseInv, hp]

theorem phaseInv_alignRx (hp : s.phase = .alignRx) :
    PhaseInv s ↔ s.cmd.op = 0x01 ∧ s.align = .probing ∧ 1 ≤ s.att.toNat ∧ s.expect = probeReply ∧
      s.cnt.toNat < s.cfg.alignWaitFrames := by
  simp only [PhaseInv, hp]

theorem phaseInv_ackRx (hp : s.phase = .ackRx) :
    PhaseInv s ↔ awaitsAck s.cmd = true ∧ s.expect = encReset s.cmd.arg ∧ s.cnt.toNat < maxWaitFrames := by
  simp only [PhaseInv, hp]

theorem phaseInv_msgRx (hp : s.phase = .msgRx) : PhaseInv s ↔ s.cmd.op = 0x06 := by
  simp only [PhaseInv, hp]

/-! ### The rows of the step table -/

/-- S2: the probe is written. -/
theorem Inv.probe (h : Inv s) (hp : s.phase = .alignTx) :
    Inv { armWait probeReply (countAttempt (txWrite probeBytes s)) with phase := .alignRx } := by
  obtain ⟨hop, halign, hatt⟩ := (phaseInv_alignTx hp).1 h.phase_fits
  have hwait := InWait.probe ((h.standing.txWrite (.inl rfl)).countAttempt hatt)
  refine .of_running (hwait.standing.congr rfl) (h.running (by simp [hp])) nofun
    ⟨hop, halign, ?_, rfl, hwait.below⟩
  rw [armWait_att, countAttempt_att, txWrite_att,
    BitVec.toNat_add_of_lt (Nat.lt_of_le_of_lt (Nat.succ_le_of_lt hatt) (by decide))]
  exact Nat.le_add_left _ _

/-- S3 to S8: a read of an attempt. -/
theorem Inv.alignRxStep (h : Inv s) (hp : s.phase = .alignRx) : Inv (alignRxStep s) := by
  obtain ⟨hop, halign, hatt, hexpect, hcnt⟩ := (phaseInv_alignRx hp).1 h.phase_fits
  have hrun := (h.running (by simp [hp])).waitTurn
  have hwait : InWait s.cfg.alignWaitFrames s := ⟨h.standing, .inl ⟨hexpect, rfl⟩, hcnt⟩
  rcases alignRxStep_cases s with ⟨hv, e⟩ | e | ⟨ha, e⟩ | ⟨ha, e⟩ <;> rw [e]
  · have hnext := hwait.waitTurn_of_goes_on hv
    refine .of_running hnext.standing hrun (by simp [hp]) ((phaseInv_alignRx (by simp [hp])).2 ?_)
    exact ⟨by simp [hop], by simp [halign], by simp [hatt], by simp [hexpect], by simpa using hnext.below⟩
  · exact .alignSuccess hwait.waitTurn
  · exact .alignFailure hwait.waitTurn (by simp [hop]) (by simp [ha])
  · refine .of_running (hwait.waitTurn.congr rfl) hrun nofun ⟨by simp [hop], by simp [halign], ?_⟩
    simpa using lt_of_le_of_ne h.att_range ha

/-- S10, S11: what follows the write of a command frame. -/
theorem Inv.afterCommandWrite (h : Standing s) (hr : Running s) : Inv (afterCommandWrite s) := by
  unfold Machine.afterCommandWrite
  split_ifs with hw
  · have hwait := InWait.ack h s.cmd.arg
    exact .of_running (hwait.standing.congr rfl) hr nofun ⟨hw, rfl, hwait.below⟩
  · exact .of_success h

/-- S12 to S15: a read of the acknowledgement wait. -/
theorem Inv.ackRxStep (h : Inv s) (hp : s.phase = .ackRx) : Inv (ackRxStep s) := by
  obtain ⟨hw, hexpect, hcnt⟩ := (phaseInv_ackRx hp).1 h.phase_fits
  have hwait : InWait maxWaitFrames s := ⟨h.standing, .inr ⟨by rw [hexpect]; rfl, rfl⟩, hcnt⟩
  rcases ackRxStep_cases s with ⟨hv, e⟩ | ⟨w, e⟩ <;> rw [e]
  · have hnext := hwait.waitTurn_of_goes_on hv
    refine .of_running hnext.standing (h.running (by simp [hp])).waitTurn (by simp [hp])
      ((phaseInv_ackRx (by simp [hp])).2 ⟨by simp [hw], by simp [hexpect], hnext.below⟩)
  · exact .reportAck hwait.waitTurn (by simp [hw])

/-- Every transaction of the sequencer keeps the invariant. -/
theorem Inv.transaction {t : State} (h : Inv s) (ht : Transaction s t) : Inv t := by
  cases ht with
  | wait _ => exact h
  | probe hp => exact h.probe hp
  | readReply hp => exact h.alignRxStep hp
  | writeFrame i hp hi =>
    exact .afterCommandWrite (h.standing.txWrite (lawfulWrite_encode (port_latchFrame hi))) (h.running (by simp [hp]))
  | readAck hp => exact h.ackRxStep hp
  | readMessage hp => exact .rdmsgBody h.standing ((phaseInv_msgRx hp).1 h.phase_fits)

/-! ### Reset, the HOST port, and the step -/

/-- The model's two fields at the HOST port are no part of the invariant. -/
theorem Inv.hostPort (h : Inv s) (host : List HostReq) (out : Option (BitVec 56)) :
    Inv { s with host := host, hostOut := out } := { h with }

/-- Reset gives the invariant from the configuration alone (R50, R300). -/
theorem Inv.platformReset (h : s.cfg.wf) : Inv (platformReset s) where
  config := h
  busy_iff := by simp
  busy_clear := by simp
  phase_fits := trivial
  err_fits := trivial
  silent_failure := by simp
  att_range := Nat.zero_le _
  wait_range := .inr ⟨rfl, Nat.zero_le _⟩
  event_fits := .inl rfl
  trace_lawful := by simp
  tx_fits := ⟨s.tx, by simp [txBytes]⟩

/-- The configuration a block is constructed with is in the ranges of R21. -/
theorem construction_wf : Config.construction.wf := by decide

/-- Settles O46: `State.reset` is what the platform's reset makes of itself. -/
theorem invariantHoldsAtReset : Obligations.InvariantHoldsAtReset :=
  Inv.platformReset (s := State.reset) construction_wf

/-- Settles O47, by the five kinds of step (`step_next`): the invariant comes from reset, or is kept by the HOST port,
by an issue, by a whole operation or by a transaction of the sequencer. -/
theorem everyStepKeepsTheInvariant : Obligations.EveryStepKeepsTheInvariant := by
  intro s t h ht
  cases step_next ht with
  | reset host _ => exact .platformReset h.config
  | observed host out => exact h.hostPort host out
  | issued host c _ => exact .issueStep (h.hostPort host s.hostOut).standing c
  | called host c _ => exact .called (h.hostPort host s.hostOut).standing c
  | sequenced host ht => exact (h.hostPort host s.hostOut).transaction ht

end Sys2Proof.Machine
end

section
/-!
SUPPORT. Who writes which register (R21, R26, R28 to R31): a step belongs to ALIGN, to an RSTCLK that waits, to RDMSG,
or changes none of the registers that have an owner.
-/

namespace Sys2Proof.Machine

variable {s t : State}

/-- Between two states each register was changed by its owner at most; the latch of the second names the owner. -/
def OwnersWrite (s t : State) : Prop :=
  (t.align ≠ s.align ∨ t.att ≠ s.att → t.cmd.op = 0x01) ∧
  (t.event ≠ s.event → t.cmd.op = 0x06) ∧
  (t.expect ≠ s.expect ∨ t.cnt ≠ s.cnt → t.cmd.op = 0x01 ∨ awaitsAck t.cmd = true) ∧
  t.cfg = s.cfg

namespace OwnersWrite

/-- No register with an owner was changed. -/
theorem of_unchanged (h : (t.align, t.att, t.event, t.expect, t.cnt, t.cfg) =
    (s.align, s.att, s.event, s.expect, s.cnt, s.cfg)) : OwnersWrite s t := by
  simp only [Prod.mk.injEq] at h
  obtain ⟨halign, hatt, hevent, hexpect, hcnt, hcfg⟩ := h
  exact ⟨fun hne => by simp [halign, hatt] at hne, fun hne => absurd hevent hne,
    fun hne => by simp [hexpect, hcnt] at hne, hcfg⟩

/-- ALIGN changed what it owns. -/
theorem of_align (hop : t.cmd.op = 0x01) (hevent : t.event = s.event) (hcfg : t.cfg = s.cfg) : OwnersWrite s t :=
  ⟨fun _ => hop, fun hne => absurd hevent hne, fun _ => .inl hop, hcfg⟩

/-- An RSTCLK that waits changed what it owns. -/
theorem of_awaitsAck (hw : awaitsAck t.cmd = true) (halign : t.align = s.align) (hatt : t.att = s.att)
    (hevent : t.event = s.event) (hcfg : t.cfg = s.cfg) : OwnersWrite s t :=
  ⟨fun hne => by simp [halign, hatt] at hne, fun hne => absurd hevent hne, fun _ => .inr hw, hcfg⟩

/-- RDMSG changed what it owns. -/
theorem of_rdmsg (hop : t.cmd.op = 0x06) (halign : t.align = s.align) (hatt : t.att = s.att)
    (hexpect : t.expect = s.expect) (hcnt : t.cnt = s.cnt) (hcfg : t.cfg = s.cfg) : OwnersWrite s t :=
  ⟨fun hne => by simp [halign, hatt] at hne, fun _ => hop, fun hne => by simp [hexpect, hcnt] at hne, hcfg⟩

/-! ### The operations, from issue to report -/

theorem rdmsgBody (hop : s.cmd.op = 0x06) : OwnersWrite s (rdmsgBody s) := by
  obtain ⟨hcfg, -, -, hcmd, halign, hatt, hcnt, hexpect, -⟩ := rdmsgBody_frame s
  exact of_rdmsg (hcmd ▸ hop) halign hatt hexpect hcnt hcfg

theorem rstclkBody (hop : s.cmd.op = 0x02) : OwnersWrite s (rstclkBody s.cmd.arg s) := by
  obtain ⟨hcfg, -, -, hcmd, hevent, halign, hatt, hzero⟩ := rstclkBody_frame s.cmd.arg s
  by_cases h0 : s.cmd.arg = 0
  · obtain ⟨hexpect, hcnt, -⟩ := hzero h0
    exact of_unchanged (by rw [halign, hatt, hevent, hexpect, hcnt, hcfg])
  · exact of_awaitsAck (by rw [hcmd]; exact awaitsAck_iff.2 ⟨hop, h0⟩) halign hatt hevent hcfg

theorem called (s : State) (c : Command) : OwnersWrite s (hostBody (decodeCommand c) (issue c s)) := by
  rcases hostBody_decodeCommand c with ⟨hop, e⟩ | ⟨hop, e⟩ | ⟨f, -, e⟩ | ⟨hop, e⟩ | ⟨-, e⟩ <;> rw [e]
  · obtain ⟨hcfg, -, -, hcmd, hevent⟩ := alignProcedure_frame (issue c s)
    exact of_align (hcmd ▸ hop) hevent hcfg
  · exact rstclkBody (s := issue c s) hop
  · exact of_unchanged rfl
  · exact rdmsgBody (s := issue c s) hop
  · exact of_unchanged rfl

/-! ### The issue and the transactions -/

theorem issueStep (s : State) (c : Command) : OwnersWrite s (issueStep c s) := by
  rcases issueStep_cases c s with ⟨hop, e⟩ | ⟨-, e⟩ | ⟨-, e⟩ | ⟨-, e⟩ <;> rw [e]
  · exact of_align hop rfl rfl
  all_goals exact of_unchanged rfl

theorem alignRxStep (hop : s.cmd.op = 0x01) : OwnersWrite s (alignRxStep s) := by
  rcases alignRxStep_cases s with ⟨-, e⟩ | e | ⟨-, e⟩ | ⟨-, e⟩ <;> rw [e] <;>
    exact of_align (by simp [hop]) (by simp) (by simp)

theorem afterCommandWrite (s : State) (bs : List Byte) : OwnersWrite s (afterCommandWrite (txWrite bs s)) := by
  unfold Machine.afterCommandWrite
  split_ifs with hw
  · exact of_awaitsAck hw rfl rfl rfl rfl
  · exact of_unchanged rfl

theorem ackRxStep (hw : awaitsAck s.cmd = true) : OwnersWrite s (ackRxStep s) := by
  rcases ackRxStep_cases s with ⟨-, e⟩ | ⟨w, e⟩ <;> rw [e]
  · exact of_awaitsAck (by simp [hw]) (by simp) (by simp) (by simp) (by simp)
  · obtain ⟨o, err, e, -⟩ := reportAck_reports (w, waitTurn s)
    rw [e]
    exact of_awaitsAck (by simp [hw]) (by simp) (by simp) (by simp) (by simp)

/-- By the invariant the latch holds the operation whose phase it is. -/
theorem transaction (h : Inv s) (ht : Transaction s t) : OwnersWrite s t := by
  cases ht with
  | wait _ => exact of_unchanged rfl
  | probe hp => exact of_align ((phaseInv_alignTx hp).1 h.phase_fits).1 rfl rfl
  | readReply hp => exact alignRxStep ((phaseInv_alignRx hp).1 h.phase_fits).1
  | writeFrame i _ _ => exact afterCommandWrite s (encode i)
  | readAck hp => exact ackRxStep ((phaseInv_ackRx hp).1 h.phase_fits).1
  | readMessage hp => exact rdmsgBody ((phaseInv_msgRx hp).1 h.phase_fits)

end OwnersWrite

/-- Settles O50, by the kinds of step other than reset (`step_next`). -/
theorem onlyTheOwnerWritesARegister : Obligations.OnlyTheOwnerWritesARegister := by
  intro s t h hreset ht
  cases step_next ht with
  | reset _ hr => exact absurd hr hreset
  | observed host out => exact OwnersWrite.of_unchanged rfl
  | issued host c _ => exact OwnersWrite.issueStep { s with host := host } c
  | called host c _ => exact OwnersWrite.called { s with host := host } c
  | sequenced host ht => exact OwnersWrite.transaction (s := { s with host := host }) (h.hostPort host s.hostOut) ht

end Sys2Proof.Machine
end

section
/-!
SUPPORT. The control registers at the HOST port: where their fields stand, what a read delivers, what is refused, and
what reset leaves (R24 to R31, R50, R51, R73).
-/

namespace Sys2Proof.Machine

variable {s : State} {rest : List HostReq}

/-! ### Requests that are served or refused -/

/-- A read of a register that is there delivers its value and changes nothing else (R51). -/
theorem step_read_delivers {cr : Nat} {v : BitVec 56} (h : s.host = .read cr :: rest)
    (hv : readCr cr { s with host := rest } = .ok v) :
    step s = .next { s with host := rest, hostOut := some v } := by
  rw [step_read h, hostRead, hv]

/-- A read of a register that cannot be read is refused. -/
theorem step_read_refused {cr : Nat} {r : Refusal} (h : s.host = .read cr :: rest)
    (hr : readCr cr { s with host := rest } = .error r) : step s = .refused r := by
  rw [step_read h, hostRead, hr]

theorem readCr_above {cr : Nat} (h : 4 < cr) (s : State) : readCr cr s = .error (.noSuchRegister cr) := by
  match cr, h with
  | n + 5, _ => rfl

/-- A write of a register the host only reads is refused (the model's choice, notes/assumptions/8.md). -/
theorem step_write_readOnly {cr : Nat} {w : BitVec 56} (h : s.host = .write cr w :: rest) (h1 : 1 ≤ cr) (h4 : cr ≤ 4) :
    step s = .refused (.writeOfReadOnlyRegister cr) := by
  rw [step_write h, hostWrite, if_neg (by omega), if_pos h4]

/-- A write of a register that is not there is refused (R73). -/
theorem step_write_above {cr : Nat} {w : BitVec 56} (h : s.host = .write cr w :: rest) (h4 : 4 < cr) :
    step s = .refused (.noSuchRegister cr) := by
  rw [step_write h, hostWrite, if_neg (by omega), if_neg (by omega)]

/-- A command written while an operation is in progress is refused (R23). -/
theorem step_write_busy {w : BitVec 56} (h : s.host = .write 0 w :: rest) (hb : s.busy = true) :
    step s = .refused .commandWhileBusy := by
  rw [step_write h, hostWrite, if_pos rfl, if_pos hb]

/-- Settles O16, clause by clause. -/
theorem hostMisuseIsRefused : Obligations.HostMisuseIsRefused := fun _ _ _ =>
  ⟨step_write_busy, fun _ h1 h4 h => step_write_readOnly h h1 h4, fun _ h4 h => step_write_above h h4,
    fun h => step_read_refused h rfl, fun _ h4 h => step_read_refused h (readCr_above h4 _)⟩

/-! ### Where the fields stand -/

/-- Each byte of a frame stands at its eight bits of `F[39:0]`, byte 0 on top (R10, R100). -/
theorem frame_bits_bytes (f : Frame) :
    f.bits.extractLsb 39 32 = f.b0 ∧ f.bits.extractLsb 31 24 = f.b1 ∧ f.bits.extractLsb 23 16 = f.b2 ∧
      f.bits.extractLsb 15 8 = f.b3 ∧ f.bits.extractLsb 7 0 = f.b4 := by
  simp (disch := decide) only [BitVec.extractLsb, Frame.bits, BitVec.extractLsb'_append_eq_of_le,
    BitVec.extractLsb'_append_eq_of_add_le]
  exact ⟨BitVec.extractLsb'_eq_self, BitVec.extractLsb'_eq_self, BitVec.extractLsb'_eq_self,
    BitVec.extractLsb'_eq_self, BitVec.extractLsb'_eq_self⟩

theorem statusBits_flags (s : State) :
    s.statusBits.getLsbD 0 = s.busy ∧ s.statusBits.getLsbD 1 = s.done ∧ s.statusBits.getLsbD 2 = s.ok := by
  simp only [State.statusBits, BitVec.getLsbD_append]
  simp

theorem statusBits_codes (s : State) :
    s.statusBits.extractLsb 5 3 = s.err.code ∧ s.statusBits.extractLsb 7 6 = s.align.code := by
  simp (disch := decide) only [BitVec.extractLsb, State.statusBits, BitVec.extractLsb'_append_eq_of_le,
    BitVec.extractLsb'_append_eq_of_add_le]
  exact ⟨BitVec.extractLsb'_eq_self, BitVec.extractLsb'_eq_self⟩

theorem seqBits_fields (s : State) :
    s.seqBits.extractLsb 2 0 = s.phase.code ∧ s.seqBits.extractLsb 5 3 = s.att ∧ s.seqBits.extractLsb 10 6 = s.cnt ∧
      s.seqBits.extractLsb 15 11 = 0 := by
  simp (disch := decide) only [BitVec.extractLsb, State.seqBits, BitVec.extractLsb'_append_eq_of_le,
    BitVec.extractLsb'_append_eq_of_add_le]
  exact ⟨BitVec.extractLsb'_eq_self, BitVec.extractLsb'_eq_self, BitVec.extractLsb'_eq_self,
    BitVec.extractLsb'_eq_self⟩

theorem eventBits_tag (s : State) : s.eventBits.extractLsb 43 40 = tagCode s.event.tag :=
  (BitVec.extractLsb'_append_eq_of_le (by decide)).trans BitVec.extractLsb'_eq_self

/-- Below TAG the bits of EVENT are the bits of RAW (R31). -/
theorem eventBits_raw (s : State) {hi lo : Nat} (h : lo + (hi - lo + 1) ≤ 40) :
    s.eventBits.extractLsb hi lo = s.event.raw.bits.extractLsb hi lo :=
  BitVec.extractLsb'_append_eq_of_add_le h

/-- Settles O13, by `statusBits_flags` and `statusBits_codes`. -/
theorem statusRegisterLayout : Obligations.StatusRegisterLayout := by
  refine ⟨fun s => ?_, rfl, rfl⟩
  obtain ⟨hbusy, hdone, hok⟩ := statusBits_flags s
  obtain ⟨herr, halign⟩ := statusBits_codes s
  exact ⟨hbusy, hdone, hok, herr, halign, fun _ h => step_read_delivers h rfl,
    fun _ _ h => step_write_readOnly h (by decide) (by decide)⟩

/-- Settles O14, by `seqBits_fields`. -/
theorem sequencerRegisterLayout : Obligations.SequencerRegisterLayout := by
  refine ⟨fun s => ?_, rfl⟩
  obtain ⟨hphase, hatt, hcnt, hzero⟩ := seqBits_fields s
  exact ⟨hphase, hatt, hcnt, hzero, fun _ h => step_read_delivers h rfl⟩

/-- Settles O15: both registers hold a frame's bits (`frame_bits_bytes`), EVENT below its TAG. -/
theorem expectAndEventLayout : Obligations.ExpectAndEventLayout := by
  refine ⟨fun s => ?_, rfl⟩
  obtain ⟨e0, e1, e2, e3, e4⟩ := frame_bits_bytes s.expect
  obtain ⟨r0, r1, r2, r3, r4⟩ := frame_bits_bytes s.event.raw
  exact ⟨e0, e1, e2, e3, e4, eventBits_tag s, (eventBits_raw s (by decide)).trans r0,
    (eventBits_raw s (by decide)).trans r1, (eventBits_raw s (by decide)).trans r2,
    (eventBits_raw s (by decide)).trans r3, (eventBits_raw s (by decide)).trans r4,
    fun _ h => step_read_delivers h rfl, fun _ h => step_read_delivers h rfl⟩

/-! ### Reset -/

/-- CR1 to CR4 of the reset state are zero (R50). -/
theorem reset_reads_zero :
    State.reset.statusBits = 0 ∧ State.reset.seqBits = 0 ∧ State.reset.expectBits = 0 ∧ State.reset.eventBits = 0 := by
  decide

/-- The platform's reset leaves the registers of the reset state, whatever the state was (R50, R300). -/
theorem platformReset_registers (s : State) :
    (platformReset s).statusBits = State.reset.statusBits ∧ (platformReset s).seqBits = State.reset.seqBits ∧
      (platformReset s).expectBits = State.reset.expectBits ∧ (platformReset s).eventBits = State.reset.eventBits :=
  ⟨rfl, rfl, rfl, rfl⟩

/-- Settles O44: the step is `platformReset`; its registers are the reset state's, the rest are its field lemmas. -/
theorem resetClearsRegistersAndTouchesNoStream : Obligations.ResetClearsRegistersAndTouchesNoStream := by
  intro s rest h
  obtain ⟨status, seq, expect, event⟩ := platformReset_registers { s with host := rest }
  obtain ⟨status0, seq0, expect0, event0⟩ := reset_reads_zero
  exact ⟨_, step_reset h, status.trans status0, seq.trans seq0, expect.trans expect0, event.trans event0,
    rfl, rfl, rfl, rfl, rfl, rfl, rfl, rfl, rfl⟩

/-- Settles O45, by `reset_reads_zero` and `construction_wf`. -/
theorem resetStateReadsZero : Obligations.ResetStateReadsZero := by
  obtain ⟨status, seq, expect, event⟩ := reset_reads_zero
  exact ⟨status, seq, expect, event, rfl, rfl, construction_wf, rfl, rfl⟩

end Sys2Proof.Machine
end

section
/-!
SUPPORT. The views of EVENT (R32): what `decode(f)` can answer, said once, and each view under each class.
-/

namespace Sys2Proof.Machine

/-- The answers of `decode(f)`, each with the test that gives it (R140 to R149). -/
inductive DecodesTo (f : Frame) : Event → Prop
  | heartbeat : DecodesTo f (.clockHeartbeat (u32 f.payload))
  | input1 : f.b0 &&& 0xF0 = 0x20 → DecodesTo f (.input 1 none (u32 f.payload))
  | input2 : f.b0 &&& 0xF0 = 0x40 →
      DecodesTo f (.input 2 (some ((f.b0 &&& 0x0E).extractLsb' 0 4)) (u32 f.payload))
  | input3 : f.b0 &&& 0xF0 = 0x80 →
      DecodesTo f (.input 3 (some ((f.b0 &&& 0x07).extractLsb' 0 4)) (u32 f.payload))
  | portsSet : DecodesTo f (.portsSet (low5 f.b3) f.b1)
  | portBSet : DecodesTo f (.portBSet f.b1)
  | resetEcho : DecodesTo f (.resetEcho f.payload)
  | scheduledOutput : DecodesTo f (.scheduledOutput (low5 f.b0) (u32 f.payload))
  | unknown : DecodesTo f (.unknown f)

theorem decodesTo_decodeEvent (f : Frame) : DecodesTo f (decodeEvent f) := by
  unfold decodeEvent
  refine ite_property (fun _ => .heartbeat) fun _ => ?_
  refine ite_property .input1 fun _ => ?_
  refine ite_property .input2 fun _ => ?_
  refine ite_property .input3 fun _ => ?_
  refine ite_property (fun _ => ite_property (fun _ => .portsSet) fun _ => .portBSet) fun _ => ?_
  refine ite_property (fun _ => .resetEcho) fun _ => ?_
  exact ite_property (fun _ => .scheduledOutput) fun _ => .unknown

/-- A register that holds a frame under the class of its event shows that event (R31). -/
theorem event?_decodeEvent (f : Frame) : EventReg.event? ⟨(decodeEvent f).tag, f⟩ = some (decodeEvent f) := by
  unfold EventReg.event?
  cases decodeEvent f <;> rfl

/-- Under INPUT the test that byte 0 meets gives the channel, and the channel EV_SUBV and EV_SUB (R32, R142 to R144). -/
theorem input_views {e : EventReg} (ht : e.tag = .input) :
    (e.raw.b0 &&& 0xF0 = 0x20 → e.channel? = some 1 ∧ e.subValid? = some false ∧ e.sub? = none) ∧
      (e.raw.b0 &&& 0xF0 = 0x40 → e.channel? = some 2 ∧ e.subValid? = some true ∧
        e.sub? = some ((e.raw.b0 &&& 0x0E).extractLsb' 0 4)) ∧
      (e.raw.b0 &&& 0xF0 = 0x80 → e.channel? = some 3 ∧ e.subValid? = some true ∧
        e.sub? = some ((e.raw.b0 &&& 0x07).extractLsb' 0 4)) := by
  refine ⟨fun h => ?_, fun h => ?_, fun h => ?_⟩
  · have hc : e.channel? = some 1 := by simp only [EventReg.channel?, ht, h]; rfl
    exact ⟨hc, by rw [EventReg.subValid?, hc]; rfl, by rw [EventReg.sub?, hc]; rfl⟩
  · have hc : e.channel? = some 2 := by simp only [EventReg.channel?, ht, h]; rfl
    exact ⟨hc, by rw [EventReg.subValid?, hc]; rfl, by rw [EventReg.sub?, hc]; rfl⟩
  · have hc : e.channel? = some 3 := by simp only [EventReg.channel?, ht, h]; rfl
    exact ⟨hc, by rw [EventReg.subValid?, hc]; rfl, by rw [EventReg.sub?, hc]; rfl⟩

/-- Settles O12, by the answers of `decode(f)`; the three input rows are `input_views`. -/
theorem eventViewsAreTheEventFields : Obligations.EventViewsAreTheEventFields := by
  refine ⟨fun f => ⟨event?_decodeEvent f, ?_⟩, fun raw => ⟨rfl, rfl, rfl, rfl, rfl, rfl, rfl, rfl⟩⟩
  have h := decodesTo_decodeEvent f
  generalize decodeEvent f = ev at h
  cases h with
  | heartbeat => exact ⟨rfl, rfl, rfl, rfl, rfl, rfl, rfl⟩
  | input1 h =>
    obtain ⟨hch, hsubv, hsub⟩ := (input_views (e := ⟨.input, f⟩) rfl).1 h
    exact ⟨rfl, hch, hsubv, hsub, rfl, rfl, rfl⟩
  | input2 h =>
    obtain ⟨hch, hsubv, hsub⟩ := (input_views (e := ⟨.input, f⟩) rfl).2.1 h
    exact ⟨rfl, hch, hsubv, hsub, rfl, rfl, rfl⟩
  | input3 h =>
    obtain ⟨hch, hsubv, hsub⟩ := (input_views (e := ⟨.input, f⟩) rfl).2.2 h
    exact ⟨rfl, hch, hsubv, hsub, rfl, rfl, rfl⟩
  | portsSet => exact ⟨rfl, rfl, rfl, rfl, rfl, rfl, rfl⟩
  | portBSet => exact ⟨rfl, rfl, rfl, rfl, rfl, rfl, rfl⟩
  | resetEcho => exact ⟨rfl, rfl, rfl, rfl, rfl, rfl, rfl⟩
  | scheduledOutput => exact ⟨rfl, rfl, rfl, rfl, rfl, rfl, rfl⟩
  | unknown => exact ⟨rfl, rfl, rfl, rfl, rfl, rfl, rfl, rfl⟩

end Sys2Proof.Machine
end

section
/-!
SUPPORT. The streams (R60, R62, R71, R75, R103): what a stretch of a run does to TX, RX and TRACE, kept by each shared
operation, and the statements on the writes and the steps.
-/

namespace Sys2Proof.Machine

variable {s t u : State}

/-- Settles O33: a row is the write of its encoding (`exec_outbound`), whose Port A byte is `masked_port_a`. -/
theorem outboundRowsWriteTheirBytes : Obligations.OutboundRowsWriteTheirBytes := by
  intro s ack at_ a b
  obtain ⟨ports, sched⟩ := masked_port_a a
  rw [← ports, ← sched]
  exact ⟨exec_outbound rfl s, exec_outbound rfl s, exec_outbound rfl s, exec_outbound rfl s, exec_outbound rfl s⟩

/-! ### What TRACE shows as written -/

@[simp] theorem txBytes_append (a b : List TraceEvent) : txBytes (a ++ b) = txBytes a ++ txBytes b :=
  List.flatMap_append

@[simp] theorem txBytes_rxTrace (rs : List RxAnswer) : txBytes (rxTrace rs) = [] := by
  simp [txBytes, rxTrace]

/-! ### Streams that only move forward -/

/-- From the first state to the second RX lost some answers from its front, TRACE grew by lawful events, and TX by
exactly what they show as written. -/
def StreamsAdvance (s t : State) : Prop :=
  (∃ k, t.rx = s.rx.drop k) ∧
  ∃ new, t.trace = s.trace ++ new ∧ t.tx = s.tx ++ txBytes new ∧ ∀ e ∈ new, LawfulEvent e

namespace StreamsAdvance

theorem refl (s : State) : StreamsAdvance s s := ⟨⟨0, rfl⟩, [], by simp [txBytes]⟩

theorem trans (h : StreamsAdvance s t) (h' : StreamsAdvance t u) : StreamsAdvance s u := by
  obtain ⟨⟨k, hrx⟩, new, htrace, htx, hlawful⟩ := h
  obtain ⟨⟨k', hrx'⟩, new', htrace', htx', hlawful'⟩ := h'
  refine ⟨⟨k + k', by rw [hrx', hrx, List.drop_drop]⟩, new ++ new', ?_, ?_, ?_⟩
  · rw [htrace', htrace, List.append_assoc]
  · rw [htx', htx, txBytes_append, List.append_assoc]
  · exact fun e he => (List.mem_append.1 he).elim (hlawful e) (hlawful' e)

/-- Nothing else of the later state matters. -/
theorem congr (h : StreamsAdvance s t) (e : (u.rx, u.trace, u.tx) = (t.rx, t.trace, t.tx)) : StreamsAdvance s u := by
  simp only [Prod.mk.injEq] at e
  obtain ⟨hrx, htrace, htx⟩ := e
  simpa only [StreamsAdvance, hrx, htrace, htx] using h

/-! ### The shared operations -/

theorem txWrite (h : StreamsAdvance s t) {bs : List Byte} (hbs : LawfulWrite bs) : StreamsAdvance s (txWrite bs t) :=
  h.trans ⟨⟨0, rfl⟩, [.tx bs], rfl, by simp [txBytes], List.forall_mem_singleton.2 hbs⟩

theorem afterReads (h : StreamsAdvance s t) (rs : List RxAnswer) : StreamsAdvance s (afterReads rs t) :=
  h.trans ⟨⟨rs.length, rfl⟩, rxTrace rs, rfl, by simp [Machine.afterReads], List.forall_mem_map.2 fun _ _ => rfl⟩

theorem rxRead (h : StreamsAdvance s t) : StreamsAdvance s (rxRead t) :=
  (h.afterReads [nextAnswer t]).congr (by rw [afterReads_cons rfl, afterReads_nil])

theorem deliver (h : StreamsAdvance s t) (f : Frame) : StreamsAdvance s (deliver (decodeEvent f).tag f t) :=
  h.trans ⟨⟨0, rfl⟩, [.ev (decodeEvent f).tag f], rfl, by simp [txBytes], List.forall_mem_singleton.2 rfl⟩

theorem waitTurn (h : StreamsAdvance s t) : StreamsAdvance s (waitTurn t) := h.rxRead.congr (by simp)

theorem waitReply (h : StreamsAdvance s t) (expect : Frame) (limit : Nat) :
    StreamsAdvance s (waitReply expect limit t).2 := by
  obtain ⟨rs, cnt, e, -⟩ := waitReply_frame expect limit t
  exact (h.afterReads rs).congr (by rw [e])

theorem alignAttempt (h : StreamsAdvance s t) : StreamsAdvance s (alignAttempt t).2 :=
  ((h.txWrite (.inl rfl)).congr (u := countAttempt (Machine.txWrite probeBytes t)) rfl).waitReply _ _

theorem reportAck {r : WaitResult × State} (h : StreamsAdvance s r.2) : StreamsAdvance s (reportAck r) := by
  obtain ⟨o, e, hr, -⟩ := reportAck_reports r
  exact h.congr (by rw [hr]; rfl)

/-! ### The operations, from issue to report -/

theorem alignProcedure (h : StreamsAdvance s t) : StreamsAdvance s (alignProcedure t) := by
  obtain ⟨u, hu, e | ⟨-, e⟩⟩ := alignProcedure_induction (s := t) (P := StreamsAdvance s) (h.congr rfl)
    fun _ hu _ => hu.alignAttempt
  all_goals exact hu.congr (by rw [e]; rfl)

theorem rstclkBody (h : StreamsAdvance s t) (arg : Tick) : StreamsAdvance s (rstclkBody arg t) := by
  have hsent := h.txWrite (.inr (.inl ⟨arg, rfl⟩))
  unfold Machine.rstclkBody
  split_ifs
  · exact hsent.congr rfl
  · exact (hsent.waitReply _ _).reportAck

theorem rdmsgBody (h : StreamsAdvance s t) : StreamsAdvance s (rdmsgBody t) := by
  unfold Machine.rdmsgBody
  rcases takeMessage_cases (nextAnswer t) (Machine.rxRead t) with ⟨f, -, e⟩ | e <;> rw [e]
  · exact (h.rxRead.deliver f).congr rfl
  · exact h.rxRead.congr rfl

theorem called (s : State) (c : Command) : StreamsAdvance s (hostBody (decodeCommand c) (issue c s)) := by
  have hissue : StreamsAdvance s (issue c s) := (refl s).congr rfl
  rcases hostBody_decodeCommand c with ⟨-, e⟩ | ⟨-, e⟩ | ⟨f, hf, e⟩ | ⟨-, e⟩ | ⟨-, e⟩ <;> rw [e]
  · exact hissue.alignProcedure
  · exact hissue.rstclkBody c.arg
  · exact (hissue.txWrite hf).congr rfl
  · exact hissue.rdmsgBody
  · exact hissue.congr rfl

/-! ### The issue and the transactions -/

/-- The issue of a command leaves the streams. -/
theorem issueStep (s : State) (c : Command) : StreamsAdvance s (issueStep c s) := by
  rcases issueStep_cases c s with ⟨-, e⟩ | ⟨-, e⟩ | ⟨-, e⟩ | ⟨-, e⟩ <;> rw [e] <;> exact (refl s).congr rfl

theorem alignRxStep (s : State) : StreamsAdvance s (alignRxStep s) := by
  rcases alignRxStep_cases s with ⟨-, e⟩ | e | ⟨-, e⟩ | ⟨-, e⟩ <;> rw [e] <;>
    exact (refl s).waitTurn.congr rfl

theorem afterCommandWrite (h : StreamsAdvance s t) : StreamsAdvance s (afterCommandWrite t) := by
  unfold Machine.afterCommandWrite
  split_ifs <;> exact h.congr rfl

theorem ackRxStep (s : State) : StreamsAdvance s (ackRxStep s) := by
  rcases ackRxStep_cases s with ⟨-, e⟩ | ⟨w, e⟩ <;> rw [e]
  · exact (refl s).waitTurn
  · exact reportAck (r := (w, Machine.waitTurn s)) (refl s).waitTurn

theorem transaction (ht : Transaction s t) : StreamsAdvance s t := by
  cases ht with
  | wait _ => exact refl s
  | probe _ => exact ((refl s).txWrite (.inl rfl)).congr rfl
  | readReply _ => exact alignRxStep s
  | writeFrame i _ hi => exact ((refl s).txWrite (lawfulWrite_encode (port_latchFrame hi))).afterCommandWrite
  | readAck _ => exact ackRxStep s
  | readMessage _ => exact (refl s).rdmsgBody

/-- A step of any kind but reset. -/
theorem of_step (hreset : s.host.head? ≠ some .reset) (ht : step s = .next t) : StreamsAdvance s t := by
  cases step_next ht with
  | reset _ hr => exact absurd hr hreset
  | observed _ _ => exact (refl s).congr rfl
  | issued host c _ => exact issueStep { s with host := host } c
  | called host c _ => exact called { s with host := host } c
  | sequenced host ht => exact transaction (s := { s with host := host }) ht

end StreamsAdvance

/-- A step with reset as the next request is the platform's reset. -/
theorem step_of_head?_reset (hreset : s.host.head? = some .reset) :
    step s = .next (platformReset { s with host := s.host.tail }) :=
  step_reset (List.eq_cons_of_mem_head? hreset)

/-- Settles O51: a reset leaves RX and TX and empties TRACE; any other step is `StreamsAdvance.of_step`. -/
theorem streamsOnlyMoveForward : Obligations.StreamsOnlyMoveForward := by
  intro s t ht
  by_cases hreset : s.host.head? = some .reset
  · rw [step_of_head?_reset hreset] at ht
    cases ht
    exact ⟨⟨0, rfl⟩, fun hne => absurd hreset hne, fun _ => ⟨rfl, rfl⟩⟩
  · obtain ⟨hrx, hnew⟩ := StreamsAdvance.of_step hreset ht
    exact ⟨hrx, fun _ => hnew, fun h => absurd h hreset⟩

end Sys2Proof.Machine
end

section
/-!
SUPPORT. What the answers to come decide: the single read of RDMSG (R206, R246), a wait whose answers are misses and
then the expected frame (R203, R208), and the statements on a torn frame and on a peer that keeps its contract.
-/

namespace Sys2Proof.Machine

variable {s : State}

/-! ### The single read of RDMSG -/

section
variable {pa pb : Byte} {arg : Tick}

/-- RDMSG, answered with a full frame. -/
theorem exec_rdmsg_of_full {f : Frame} (hfree : s.busy = false) (h : nextAnswer s = .full f) :
    exec (.rdmsg pa pb arg) s =
      .next (report true .none (deliver (decodeEvent f).tag f (rxRead (issue ⟨0x06, pa, pb, arg⟩ s)))) := by
  have hissue : nextAnswer (issue ⟨0x06, pa, pb, arg⟩ s) = .full f := h
  rw [exec_eq_operate rfl, operate_free hfree, hostBody, rdmsgBody, hissue, takeMessage]

/-- RDMSG, answered with anything else: of what was read only TRACE tells. -/
theorem exec_rdmsg_of_not_full (hfree : s.busy = false) (h : ∀ f, nextAnswer s ≠ .full f) :
    exec (.rdmsg pa pb arg) s = .next (report false .none (clearEvent (rxRead (issue ⟨0x06, pa, pb, arg⟩ s)))) := by
  rw [exec_eq_operate rfl, operate_free hfree, hostBody, rdmsgBody]
  rcases takeMessage_cases (nextAnswer (issue ⟨0x06, pa, pb, arg⟩ s)) (rxRead (issue ⟨0x06, pa, pb, arg⟩ s)) with
    ⟨f, hf, -⟩ | e
  · exact absurd hf (h f)
  · rw [e]

end

/-- Settles O31: the first RDMSG is `exec_rdmsg_of_not_full`; the answer it leaves to the second is the full frame
alone, so that one is `exec_rdmsg_of_full`. -/
theorem tornFrameIsNeverStitched : Obligations.TornFrameIsNeverStitched := by
  intro s torn f rest hfree htorn hrx
  have first : nextAnswer s = torn := by rw [nextAnswer, hrx]; rfl
  refine ⟨_, _, exec_rdmsg_of_not_full hfree (first ▸ htorn), rfl, rfl, rfl,
    exec_rdmsg_of_full (f := f) rfl ?second, rfl, rfl, ?rest⟩
  case second => simp [nextAnswer, hrx]
  case rest => simp [hrx]

/-! ### Reads that are counted -/

/-- The state after reads that were answered with `rs` and were all counted (R29). -/
def countedReads (rs : List RxAnswer) (s : State) : State :=
  { afterReads rs s with cnt := s.cnt + BitVec.ofNat 5 rs.length }

theorem countedReads_nil (s : State) : countedReads [] s = s := by
  simp [countedReads, afterReads_nil]

theorem countedReads_cons {r : RxAnswer} (h : nextAnswer s = r) (rs : List RxAnswer) :
    countedReads (r :: rs) s = countedReads rs (countRead (rxRead s)) := by
  subst h
  simp [countedReads, afterReads, rxTrace, countRead, BitVec.ofNat_add, add_comm, add_left_comm]

theorem countedReads_append (as bs : List RxAnswer) (s : State) :
    countedReads (as ++ bs) s = countedReads bs (countedReads as s) := by
  simp [countedReads, afterReads, rxTrace, BitVec.ofNat_add, BitVec.add_assoc]

/-- `CNT` of a whole wait is the number of its reads, which it can hold (R29, R196). -/
theorem countedReads_armWait_cnt {rs : List RxAnswer} (h : rs.length ≤ 31) (e : Frame) (s : State) :
    (countedReads rs (armWait e s)).cnt.toNat = rs.length := by
  simpa [countedReads] using Nat.mod_eq_of_lt (Nat.lt_succ_of_le h)

/-! ### A wait that matches (R203, R208) -/

variable {limit fuel rest : Nat}

/-- Misses below the limit are read and counted, and the wait goes on. -/
theorem waitLoop_misses {ms : List RxAnswer} (hup : upcoming s ms.length = ms) (hmiss : ∀ r ∈ ms, Miss s.expect r)
    (hlimit : limit ≤ 31) (hbelow : s.cnt.toNat + ms.length < limit) (hfuel : fuel = rest + ms.length) :
    waitLoop limit fuel s = waitLoop limit rest (countedReads ms s) := by
  subst hfuel
  induction ms generalizing s with
  | nil => rw [countedReads_nil]; rfl
  | cons r ms ih =>
    obtain ⟨hr, hup⟩ := upcoming_cons.1 hup
    obtain ⟨hmr, hmiss⟩ := List.forall_mem_cons.1 hmiss
    rw [List.length_cons] at hbelow
    have hcnt : (s.cnt + 1).toNat = s.cnt.toNat + 1 := BitVec.toNat_add_of_lt (by simp; omega)
    obtain ⟨hv, hturn⟩ := turn_missed limit (hr ▸ hmr)
    rw [hcnt, if_neg (by omega)] at hv
    rw [List.length_cons, ← Nat.add_assoc, waitLoop_goes_on hv, hturn, countedReads_cons hr]
    exact ih (s := countRead (rxRead s)) hup hmiss (by rw [countRead_cnt, rxRead_cnt, hcnt]; omega)

/-- A wait whose answers are misses and then the expected frame returns MATCH, all of them counted. -/
theorem waitReply_matched {expect : Frame} {rs : List RxAnswer} (h : MatchedWait expect limit rs)
    (hlimit : limit ≤ 31) (hup : upcoming s rs.length = rs) :
    waitReply expect limit s = (.matched, countedReads rs (armWait expect s)) := by
  obtain ⟨ms, rfl, hlen, hmiss⟩ := h
  obtain ⟨hms, hlast⟩ := upcoming_append.1 hup
  have hlast : nextAnswer (countedReads ms (armWait expect s)) = .full expect := (upcoming_cons.1 hlast).1
  obtain ⟨hv, hturn⟩ := turn_matched limit hlast
  rw [waitReply, waitLoop_misses (s := armWait expect s) hms hmiss hlimit (by simpa using hlen)
    (show limit = limit - ms.length - 1 + 1 + ms.length by omega), waitLoop_ends hv, hturn, countedReads_append,
    countedReads_cons hlast, countedReads_nil]

/-! ### The reply a peer owes (R80, R81) -/

theorem owed_probe : Peer.owed probeBytes = some probeReply := by decide

theorem owed_encReset {arg : Tick} (h : arg ≠ 0) : Peer.owed (encReset arg).bytes = some (encReset arg) := by
  have reads : decodeOutbound (encReset arg).bytes = .ok (.reset arg) := by
    simp [decodeOutbound, encReset, Frame.bytes, Payload.withByte0]
  have no_probe : (encReset arg).bytes ≠ probeBytes := by simp [Frame.bytes, probeBytes]
  simp only [Peer.owed, no_probe, reads, h, if_false]

/-- The answers of a peer that keeps the contract end the wait for the owed reply with MATCH, all of them counted. -/
theorem waitReply_answersInTurn {written : List Byte} {reply : Frame} {answers : List RxAnswer}
    (owes : Peer.owed written = some reply) (h : Peer.answersInTurn written answers) (fits : answers.length ≤ limit)
    (hlimit : limit ≤ 31) (hup : upcoming s answers.length = answers) :
    ∃ t, waitReply reply limit s = (.matched, t) ∧ t.cnt.toNat = answers.length ∧ t.att = s.att :=
  ⟨_, waitReply_matched (answersInTurn_matches owes h fits).1 hlimit hup,
    countedReads_armWait_cnt (fits.trans hlimit) reply s, rfl⟩

/-- Settles O32: both operations write what the peer replies to, and their wait is `waitReply_answersInTurn`. -/
theorem contractKeepingPeerIsAcknowledged : Obligations.ContractKeepingPeerIsAcknowledged := by
  intro s pa pb arg answers hfree ⟨_, _, hmax⟩ hup
  refine ⟨fun harg h fits => ?_, fun h fits => ?_⟩
  · obtain ⟨t, hwait, hcnt, -⟩ := waitReply_answersInTurn
      (s := txWrite (encReset arg).bytes (issue ⟨0x02, pa, pb, arg⟩ s)) (limit := maxWaitFrames)
      (owed_encReset harg) h fits (by decide) hup
    refine ⟨report true .none t, ?_, rfl, rfl, hcnt⟩
    rw [exec_eq_operate rfl, operate_free hfree, hostBody, rstclkBody, if_neg harg, hwait, reportAck]
  · obtain ⟨t, hwait, hcnt, hatt⟩ := waitReply_answersInTurn
      (s := countAttempt (txWrite probeBytes (startAlign (issue ⟨0x01, pa, pb, arg⟩ s))))
      owed_probe h fits hmax hup
    refine ⟨alignSuccess t, ?_, rfl, rfl, hatt, hcnt⟩
    rw [exec_eq_operate rfl, operate_free hfree, hostBody, alignProcedure]
    exact congrArg Host.Outcome.next (alignLoop_succeeds hwait)

end Sys2Proof.Machine
end

section
/-!
SUPPORT. The command word and its fields (R101), and the statements on the words a host program assembles to.
-/

namespace Sys2Proof

@[simp] theorem Command.toBits_ofBits (w : BitVec 56) : (Command.ofBits w).toBits = w := by
  simp only [Command.toBits, Command.ofBits]
  iterate 3 rw [BitVec.extractLsb'_append_extractLsb'_eq_extractLsb' (by rfl)]
  exact BitVec.extractLsb'_eq_self

@[simp] theorem Command.ofBits_toBits (c : Command) : Command.ofBits c.toBits = c := by
  simp (disch := decide) only [Command.ofBits, Command.toBits, BitVec.extractLsb'_append_eq_of_le,
    BitVec.extractLsb'_append_eq_of_add_le]
  congr 1 <;> exact BitVec.extractLsb'_eq_self

/-- Settles O2: the fields are the ranges of the layout by definition, and the two directions are the lemmas above. -/
theorem commandWordFields : Obligations.CommandWordFields :=
  ⟨fun _ => ⟨rfl, rfl, rfl, rfl⟩, Command.toBits_ofBits, Command.ofBits_toBits⟩

namespace Machine

/-- The word of a command decodes to the operation of the command. -/
@[simp] theorem decodeHostWord_toBits (c : Command) : decodeHostWord c.toBits = decodeCommand c := by
  rw [decodeHostWord, Command.ofBits_toBits]

/-- Settles O54: an operation assembles to the word of its command (`decodeHostWord_toBits`); a pseudo-operation has the
word of the operation it expands to. -/
theorem assembledWordsMeanTheirOperations : Obligations.AssembledWordsMeanTheirOperations := by
  intro cfg pa pb v w x
  refine ⟨?_, ?_, ?_, ?_, ?_, ?_, rfl, rfl, rfl, ?_⟩
  iterate 6 exact congrArg some (decodeHostWord_toBits _)
  cases h : secondsToTicks cfg x <;> simp [assemble, h]

end Machine

end Sys2Proof
end

section
/-!
SUPPORT. The round trip of the codec, a port at a time: decoding inverts encoding on the well-formed instructions, and
encoding inverts decoding (R100, R101, R104, R105, R107).
-/

namespace Sys2Proof

/-! ### Tests that exclude each other -/

/-- Two masked tests whose patterns differ under both masks cannot both hold. -/
theorem and_ne_of_conflict {n : Nat} {b m p m' p' : BitVec n} (h : b &&& m = p) (hne : p &&& m' ≠ p' &&& m) :
    b &&& m' ≠ p' := by
  rintro rfl
  rw [← h, BitVec.and_assoc, BitVec.and_comm m, BitVec.and_assoc] at hne
  exact hne rfl

/-- A value outside a pattern is not one that meets it. -/
theorem ne_of_conflict {n : Nat} {b m p q : BitVec n} (h : b &&& m = p) (hne : q &&& m ≠ p) : b ≠ q := by
  rintro rfl
  exact hne h

/-- The reserved codes are the two single ones and the five ranges (R101, R111). -/
theorem reserved_iff_pattern (op : Byte) :
    reservedOp op = true ↔ op = 0x00#8 ∨ op = 0x07#8 ∨ op &&& 0xF8#8 = 0x08#8 ∨ op &&& 0xF0#8 = 0x10#8 ∨
      op &&& 0xE0#8 = 0x20#8 ∨ op &&& 0xC0#8 = 0x40#8 ∨ op &&& 0x80#8 = 0x80#8 := by
  revert op; decide

/-! ### What an instruction encodes to -/

theorem encode_of_command? {i : Instr} {c : Command} (h : i.command? = some c) : encode i = c.bytes := by
  rw [encode, h]

theorem encode_of_frame? {i : Instr} {f : Frame} (h : i.frame? = some f) : encode i = f.bytes := by
  cases i
  case align | rstclk | setp | setpb | sched | rdmsg | reservedOp0 | reservedOp1 | reservedOp2 | reservedOp3
    | reservedOp4 | reservedOp5 | reservedOp6 | probe => cases h
  all_goals cases h; rfl

theorem port_of_command? {i : Instr} {c : Command} (h : i.command? = some c) : i.port = .host := by
  cases i
  case align | rstclk | setp | setpb | sched | rdmsg | reservedOp0 | reservedOp1 | reservedOp2 | reservedOp3
    | reservedOp4 | reservedOp5 | reservedOp6 => rfl
  all_goals cases h

theorem exists_frame?_of_inbound {i : Instr} (h : i.port = .rx) : ∃ f, i.frame? = some f := by
  cases i
  case heartbeat | input1 | input2 | input3 | portsset | portbset | resetecho | schedout | unknown0 | unknown1
    | unknown2 | unknown3 | unknown4 | unknown5 | unknown6 | unknown7 | unknown8 => exact ⟨_, rfl⟩
  all_goals cases h

/-- The field widths of an outbound row leave nothing to check. -/
theorem wf_of_outbound {i : Instr} (h : i.port = .tx) : i.wf = true := by
  cases i
  case reset | setports | setportb | schedule | probe => rfl
  all_goals cases h

/-! ### The HOST port -/

@[simp] theorem decode_host_bytes (c : Command) : decode .host c.bytes = .ok (decodeCommand c) := by
  simp [Command.bytes, decode]

@[simp] theorem Command.bytes_u32 (b0 b1 b2 b3 b4 b5 b6 : Byte) :
    (⟨b0, b1, b2, u32 ⟨b3, b4, b5, b6⟩⟩ : Command).bytes = [b0, b1, b2, b3, b4, b5, b6] := by
  simp [Command.bytes]

/-- The command of a well-formed host row decodes to the row: the pattern of a reserved range excludes every test
before it. -/
theorem decodeCommand_of_command? {i : Instr} {c : Command} (hw : i.wf = true) (hc : i.command? = some c) :
    decodeCommand c = i := by
  cases i
  case align | rstclk | setp | setpb | sched | rdmsg | reservedOp0 | reservedOp1 => cases hc; rfl
  case reservedOp2 | reservedOp3 | reservedOp4 | reservedOp5 | reservedOp6 =>
    cases hc
    simp only [Instr.wf, beq_iff_eq, BitVec.ofNat_eq_ofNat] at hw
    simp [decodeCommand, ne_of_conflict hw, and_ne_of_conflict hw, hw]
  all_goals cases hc

theorem wf_decodeCommand (c : Command) : (decodeCommand c).wf = true := by
  have covered := (op_defined_or_reserved c.op).symm.trans (reserved_iff_pattern c.op)
  unfold decodeCommand
  iterate 8 refine ite_property (P := (Instr.wf · = true)) (fun _ => rfl) fun _ => ?_
  iterate 4 refine ite_property (P := (Instr.wf · = true)) beq_iff_eq.mpr fun _ => ?_
  -- the tests that failed leave the last range
  simp_all [Instr.wf]

/-! ### The RX port -/

@[simp] theorem decode_rx_bytes (f : Frame) : decode .rx f.bytes = .ok (decodeInbound f) := rfl

/-- The frame of a well-formed inbound row decodes to the row: its byte 0 excludes every test before its own, and the
fields are read back from where they were put. -/
theorem decodeInbound_of_frame? {i : Instr} {f : Frame} (hp : i.port = .rx) (hw : i.wf = true)
    (hf : i.frame? = some f) : decodeInbound f = i := by
  cases i
  case heartbeat x tick =>
    cases hf
    obtain ⟨h, hx, -, -⟩ := tag_nibble_fields x
    simp [decodeInbound, h, hx]
  case input1 x tick =>
    cases hf
    obtain ⟨-, -, h, hx⟩ := tag_nibble_fields x
    simp [decodeInbound, h, hx]
  case input2 s x tick =>
    cases hf
    obtain ⟨h, hs, hx⟩ := input2_byte_fields s x
    simp [decodeInbound, h, hs, hx]
  case input3 x s tick =>
    cases hf
    obtain ⟨h, hs, hx⟩ := input3_byte_fields x s
    simp [decodeInbound, h, hs, hx]
  case portsset b x2 x3 a x4 =>
    cases hf
    obtain ⟨h, hx, ha⟩ := portsset_byte_fields x3 a
    simp [decodeInbound, h, hx, ha]
  case portbset b x2 x3 x4 =>
    cases hf
    obtain ⟨h, hx⟩ := portbset_byte_fields x3
    simp [decodeInbound, h, hx]
  case resetecho p =>
    cases hf
    simp [decodeInbound]
  case schedout a tick =>
    cases hf
    obtain ⟨h, ha, -⟩ := schedule_byte_fields a
    simp [decodeInbound, ne_of_conflict h, and_ne_of_conflict h, h, ha]
  case unknown0 | unknown1 | unknown2 | unknown3 | unknown4 | unknown5 | unknown6 | unknown7 | unknown8 =>
    cases hf
    simp only [Instr.wf, beq_iff_eq, BitVec.ofNat_eq_ofNat] at hw
    simp [decodeInbound, ne_of_conflict hw, and_ne_of_conflict hw, hw]
  all_goals cases hp

theorem wf_decodeInbound (f : Frame) : (decodeInbound f).wf = true := by
  have covered := unknown_iff_no_test f.b0
  unfold decodeInbound
  iterate 4 refine ite_property (P := (Instr.wf · = true)) (fun _ => rfl) fun _ => ?_
  refine ite_property (P := (Instr.wf · = true)) (fun _ => ?_) fun _ => ?_
  · exact ite_property (P := (Instr.wf · = true)) (fun _ => rfl) fun _ => rfl
  iterate 2 refine ite_property (P := (Instr.wf · = true)) (fun _ => rfl) fun _ => ?_
  iterate 8 refine ite_property (P := (Instr.wf · = true)) beq_iff_eq.mpr fun _ => ?_
  -- the tests that failed leave the last Unknown row
  simp_all [Instr.wf]

/-! ### The TX port -/

/-- The frame of SETPORTS with its Port A bits put below the fixed ones (R172). -/
theorem encSetPorts_setWidth (a : BitVec 5) (b : Byte) :
    encSetPorts (a.setWidth 8) b = ⟨0x04, b, 0x00, 0x4#3 ++ a, 0x00⟩ := by
  rw [encSetPorts, ← (masked_port_a a).1]; rfl

/-- The frame of SCHEDULE with its Port A bits put below the fixed ones (R174). -/
theorem encSchedule_setWidth (a : BitVec 5) (at_ : Tick) :
    encSchedule (a.setWidth 8) at_ = (be32 at_).withByte0 (0x7#3 ++ a) := by
  rw [encSchedule, ← (masked_port_a a).2]; rfl

theorem setports_byte_fields (a : BitVec 5) : (0x4#3 ++ a) &&& 0xE0#8 = 0x80#8 ∧ low5 (0x4#3 ++ a) = a := by
  revert a; decide

theorem decodeOutbound_encode {i : Instr} (hp : i.port = .tx) : decodeOutbound (encode i) = .ok i := by
  cases i
  case reset ack =>
    rw [encode_of_frame? rfl]
    simp [decodeOutbound, Frame.bytes, encReset, Payload.withByte0]
  case setports a b =>
    obtain ⟨h, ha⟩ := setports_byte_fields a
    rw [encode_of_frame? rfl, encSetPorts_setWidth]
    simp [decodeOutbound, Frame.bytes, h, ha]
  case setportb b =>
    rw [encode_of_frame? rfl]
    simp [decodeOutbound, Frame.bytes, encSetPortB]
  case schedule a at_ =>
    obtain ⟨h, ha, -⟩ := schedule_byte_fields a
    rw [encode_of_frame? rfl, encSchedule_setWidth]
    simp [decodeOutbound, Frame.bytes, Payload.withByte0, ne_of_conflict h, h, ha]
  case probe => rfl
  all_goals cases hp

/-- The outbound row read from five bytes is the row of that very frame. -/
theorem frame?_of_decodeOutbound {f : Frame} {i : Instr} (h : decodeOutbound f.bytes = .ok i) :
    i.port = .tx ∧ i.frame? = some f := by
  obtain ⟨b0, b1, b2, b3, b4⟩ := f
  obtain ⟨-, -, -, -, -, -, sched, -⟩ := byte_of_fields b0
  obtain ⟨-, -, -, -, -, -, -, ports⟩ := byte_of_fields b3
  simp only [Frame.bytes, decodeOutbound] at h
  split_ifs at h with h0 h4 hz hports hportb hsched <;> cases h
  · exact ⟨rfl, by simp [Instr.frame?, encReset, Payload.withByte0, h0]⟩
  · exact ⟨rfl, by simp [Instr.frame?, encSetPorts_setWidth, ports hports, h4, hz]⟩
  · exact ⟨rfl, by simp [Instr.frame?, encSetPortB, h4, hz, hportb]⟩
  · exact ⟨rfl, by simp [Instr.frame?, encSchedule_setWidth, Payload.withByte0, sched hsched]⟩

theorem encode_of_decodeOutbound {bs : List Byte} {i : Instr} (h : decodeOutbound bs = .ok i) :
    i.port = .tx ∧ encode i = bs := by
  match bs, h with
  | [b0, b1, b2, b3, b4], h =>
    obtain ⟨hp, hf⟩ := frame?_of_decodeOutbound (f := ⟨b0, b1, b2, b3, b4⟩) h
    exact ⟨hp, encode_of_frame? hf⟩
  | [b0, b1, b2, b3, b4, b5], h =>
    simp only [decodeOutbound] at h
    split_ifs at h with hprobe
    cases h
    exact ⟨rfl, hprobe.symm⟩

/-! ### The two directions -/

/-- Settles O3, port by port: `decodeCommand_of_command?`, `decodeOutbound_encode`, `decodeInbound_of_frame?`. -/
theorem decodeInvertsEncode : Obligations.DecodeInvertsEncode := by
  intro i hw
  cases hp : i.port with
  | host =>
    obtain ⟨c, hc⟩ := Machine.exists_command?_of_isHostOp hp
    rw [encode_of_command? hc, decode_host_bytes, decodeCommand_of_command? hw hc]
  | tx => exact decodeOutbound_encode hp
  | rx =>
    obtain ⟨f, hf⟩ := exists_frame?_of_inbound hp
    rw [encode_of_frame? hf, decode_rx_bytes, decodeInbound_of_frame? hp hw hf]

/-- Settles O4, by the length of the string at each port: what the decoder reads stands for the command, the outbound
string or the frame it was read from. -/
theorem encodeInvertsDecode : Obligations.EncodeInvertsDecode := by
  intro p bs i h
  unfold decode at h
  split at h
  next b0 b1 b2 b3 b4 b5 b6 =>
    cases h
    have hc := Machine.command?_decodeCommand ⟨b0, b1, b2, u32 ⟨b3, b4, b5, b6⟩⟩
    exact ⟨port_of_command? hc, wf_decodeCommand _, by rw [encode_of_command? hc, Command.bytes_u32]⟩
  next => cases h
  next =>
    obtain ⟨hp, he⟩ := encode_of_decodeOutbound h
    exact ⟨hp, wf_of_outbound hp, he⟩
  next b0 b1 b2 b3 b4 =>
    cases h
    obtain ⟨hp, hf, -⟩ := Machine.decodeInbound_readsAs_decodeEvent ⟨b0, b1, b2, b3, b4⟩
    exact ⟨hp, wf_decodeInbound _, encode_of_frame? hf⟩
  next => cases h

end Sys2Proof
end

section
/-!
SUPPORT. The rows of the opcode table: no word belongs to two rows of a port, and every well-formed instruction stands
for a word of its own row (R101, R104, R107, R111, R149).
-/

namespace Sys2Proof

/-! ### Words and rows -/

/-- Some row of the list has this name and selects the word. -/
def SelectedAs (rows : List OpcodeRow) (w : Nat) (name : String) : Prop :=
  ∃ row ∈ rows, name = row.mnemonic ∧ w &&& row.mask = row.pattern

/-- Two rows of the list have different names, and patterns that differ under both masks. -/
def Separated (rows : List OpcodeRow) : Prop :=
  ∀ r ∈ rows, ∀ r' ∈ rows, r = r' ∨ r.mnemonic ≠ r'.mnemonic ∧ r.pattern &&& r'.mask ≠ r'.pattern &&& r.mask

/-- Where the rows are separated, a word selected under a name is selected by the row of that name and by no other. -/
theorem SelectedAs.iff {rows : List OpcodeRow} {w : Nat} {name : String} (hs : Separated rows)
    (h : SelectedAs rows w name) : ∀ row ∈ rows, name = row.mnemonic ↔ w &&& row.mask = row.pattern := by
  obtain ⟨r, hr, hname, hmatch⟩ := h
  intro row hrow
  obtain rfl | ⟨hne, hconflict⟩ := hs r hr row hrow
  · exact iff_of_true hname hmatch
  · refine iff_of_false (hname ▸ hne) fun hmatch' => hconflict ?_
    rw [← hmatch, ← hmatch', Nat.and_right_comm]

/-- The outbound rows of five bytes. -/
def outboundFrameRows : List OpcodeRow := outboundRows.filter (·.width = 40)

theorem rows_separated : Separated hostRows ∧ Separated inboundRows ∧ Separated outboundFrameRows := by
  unfold Separated; decide

/-! ### A mask on a word is a mask on its fields -/

@[simp] theorem byte_and_ff (b : Byte) : b &&& 0xFF#8 = b := BitVec.and_allOnes

theorem Command.toBits_inj {c d : Command} : c.toBits = d.toBits ↔ c = d :=
  (Function.LeftInverse.injective Command.ofBits_toBits).eq_iff

theorem Frame.bits_inj {f g : Frame} : f.bits = g.bits ↔ f = g := by
  refine ⟨fun h => ?_, congrArg _⟩
  have hf := Machine.frame_bits_bytes f
  have hg := Machine.frame_bits_bytes g
  cases f
  cases g
  simp_all

theorem Command.op_mask_iff (c : Command) (m p : Byte) :
    c.toBits.toNat &&& (toBits ⟨m, 0, 0, 0⟩).toNat = (toBits ⟨p, 0, 0, 0⟩).toNat ↔ c.op &&& m = p := by
  have masked : c.toBits &&& toBits ⟨m, 0, 0, 0⟩ = toBits ⟨c.op &&& m, c.pa &&& 0, c.pb &&& 0, c.arg &&& 0⟩ := by
    simp only [toBits, ← BitVec.and_append]
  rw [← BitVec.toNat_and, BitVec.toNat_inj, masked, toBits_inj]
  simp

theorem Frame.mask_iff (f m p : Frame) :
    f.bits.toNat &&& m.bits.toNat = p.bits.toNat ↔
      f.b0 &&& m.b0 = p.b0 ∧ f.b1 &&& m.b1 = p.b1 ∧ f.b2 &&& m.b2 = p.b2 ∧ f.b3 &&& m.b3 = p.b3 ∧
        f.b4 &&& m.b4 = p.b4 := by
  have masked : f.bits &&& m.bits =
      bits ⟨f.b0 &&& m.b0, f.b1 &&& m.b1, f.b2 &&& m.b2, f.b3 &&& m.b3, f.b4 &&& m.b4⟩ := by
    simp only [bits, ← BitVec.and_append]
  rw [← BitVec.toNat_and, BitVec.toNat_inj, masked, bits_inj]
  cases p
  simp

/-- Row `k` of the host rows tests the operation code for `p` under `m`. -/
theorem Command.selectedAs {c : Command} {name : String} (k : Nat) (m p : Byte)
    (hrow : hostRows[k]? = some ⟨name, .host, 56, (toBits ⟨m, 0, 0, 0⟩).toNat, (toBits ⟨p, 0, 0, 0⟩).toNat⟩)
    (h : c.op &&& m = p) : SelectedAs hostRows c.toBits.toNat name :=
  ⟨_, List.mem_of_getElem? hrow, rfl, (op_mask_iff c m p).mpr h⟩

/-- Row `k` of a list of frame rows tests the five bytes for `p` under `m`. -/
theorem Frame.selectedAs {rows : List OpcodeRow} {port : Port} {f : Frame} {name : String} (k : Nat) (m p : Frame)
    (hrow : rows[k]? = some ⟨name, port, 40, m.bits.toNat, p.bits.toNat⟩)
    (h : f.b0 &&& m.b0 = p.b0 ∧ f.b1 &&& m.b1 = p.b1 ∧ f.b2 &&& m.b2 = p.b2 ∧ f.b3 &&& m.b3 = p.b3 ∧
      f.b4 &&& m.b4 = p.b4) : SelectedAs rows f.bits.toNat name :=
  ⟨_, List.mem_of_getElem? hrow, rfl, (mask_iff f m p).mpr h⟩

/-- Row `k` of a list of frame rows tests byte 0 alone. -/
theorem Frame.selectedAs_byte0 {rows : List OpcodeRow} {port : Port} {f : Frame} {name : String} (k : Nat) (m p : Byte)
    (hrow : rows[k]? = some ⟨name, port, 40, (bits ⟨m, 0, 0, 0, 0⟩).toNat, (bits ⟨p, 0, 0, 0, 0⟩).toNat⟩)
    (h : f.b0 &&& m = p) : SelectedAs rows f.bits.toNat name :=
  selectedAs k _ _ hrow (by simp [h])

/-! ### Every instruction is of its row -/

theorem selectedAs_of_command? {i : Instr} {c : Command} (hw : i.wf = true) (hc : i.command? = some c) :
    SelectedAs hostRows c.toBits.toNat i.mnemonic := by
  cases i
  case align => cases hc; exact Command.selectedAs 0 0xFF 0x01 rfl (byte_and_ff _)
  case rstclk => cases hc; exact Command.selectedAs 1 0xFF 0x02 rfl (byte_and_ff _)
  case setp => cases hc; exact Command.selectedAs 2 0xFF 0x03 rfl (byte_and_ff _)
  case setpb => cases hc; exact Command.selectedAs 3 0xFF 0x04 rfl (byte_and_ff _)
  case sched => cases hc; exact Command.selectedAs 4 0xFF 0x05 rfl (byte_and_ff _)
  case rdmsg => cases hc; exact Command.selectedAs 5 0xFF 0x06 rfl (byte_and_ff _)
  case reservedOp0 => cases hc; exact Command.selectedAs 6 0xFF 0x00 rfl (byte_and_ff _)
  case reservedOp1 => cases hc; exact Command.selectedAs 7 0xFF 0x07 rfl (byte_and_ff _)
  case reservedOp2 => cases hc; exact Command.selectedAs 8 0xF8 0x08 rfl (beq_iff_eq.mp hw)
  case reservedOp3 => cases hc; exact Command.selectedAs 9 0xF0 0x10 rfl (beq_iff_eq.mp hw)
  case reservedOp4 => cases hc; exact Command.selectedAs 10 0xE0 0x20 rfl (beq_iff_eq.mp hw)
  case reservedOp5 => cases hc; exact Command.selectedAs 11 0xC0 0x40 rfl (beq_iff_eq.mp hw)
  case reservedOp6 => cases hc; exact Command.selectedAs 12 0x80 0x80 rfl (beq_iff_eq.mp hw)
  all_goals cases hc

/-- Bit 7 of byte 3 as PORTSSET puts it (R107). -/
theorem portsset_bit7 (x : BitVec 2) (a : BitVec 5) : (1#1 ++ x ++ a) &&& 0x80#8 = 0x80#8 := by
  revert x a; decide

theorem selectedAs_of_inbound {i : Instr} {f : Frame} (hp : i.port = .rx) (hw : i.wf = true) (hf : i.frame? = some f) :
    SelectedAs inboundRows f.bits.toNat i.mnemonic := by
  cases i
  case heartbeat x _ => cases hf; exact Frame.selectedAs_byte0 0 0xF0 0x10 rfl (tag_nibble_fields x).1
  case input1 x _ => cases hf; exact Frame.selectedAs_byte0 1 0xF0 0x20 rfl (tag_nibble_fields x).2.2.1
  case input2 s x _ => cases hf; exact Frame.selectedAs_byte0 2 0xF0 0x40 rfl (input2_byte_fields s x).1
  case input3 x s _ => cases hf; exact Frame.selectedAs_byte0 3 0xF0 0x80 rfl (input3_byte_fields x s).1
  case portsset _ _ x a _ =>
    cases hf
    exact Frame.selectedAs 4 ⟨0xFF, 0, 0, 0x80, 0⟩ ⟨0x04, 0, 0, 0x80, 0⟩ rfl (by simp [portsset_bit7])
  case portbset _ _ x _ =>
    cases hf
    exact Frame.selectedAs 5 ⟨0xFF, 0, 0, 0x80, 0⟩ ⟨0x04, 0, 0, 0, 0⟩ rfl (by simp [portbset_byte_fields])
  case resetecho => cases hf; exact Frame.selectedAs_byte0 6 0xFF 0x00 rfl (byte_and_ff _)
  case schedout a _ => cases hf; exact Frame.selectedAs_byte0 7 0xE0 0xE0 rfl (schedule_byte_fields a).1
  case unknown0 => cases hf; exact Frame.selectedAs_byte0 8 0xF9 0x01 rfl (beq_iff_eq.mp hw)
  case unknown1 => cases hf; exact Frame.selectedAs_byte0 9 0xFB 0x02 rfl (beq_iff_eq.mp hw)
  case unknown2 => cases hf; exact Frame.selectedAs_byte0 10 0xF8 0x08 rfl (beq_iff_eq.mp hw)
  case unknown3 => cases hf; exact Frame.selectedAs_byte0 11 0xF0 0x30 rfl (beq_iff_eq.mp hw)
  case unknown4 => cases hf; exact Frame.selectedAs_byte0 12 0xF0 0x50 rfl (beq_iff_eq.mp hw)
  case unknown5 => cases hf; exact Frame.selectedAs_byte0 13 0xE0 0x60 rfl (beq_iff_eq.mp hw)
  case unknown6 => cases hf; exact Frame.selectedAs_byte0 14 0xF0 0x90 rfl (beq_iff_eq.mp hw)
  case unknown7 => cases hf; exact Frame.selectedAs_byte0 15 0xE0 0xA0 rfl (beq_iff_eq.mp hw)
  case unknown8 => cases hf; exact Frame.selectedAs_byte0 16 0xE0 0xC0 rfl (beq_iff_eq.mp hw)
  all_goals cases hp

theorem selectedAs_of_outbound {i : Instr} {f : Frame} (hp : i.port = .tx) (hf : i.frame? = some f) :
    SelectedAs outboundFrameRows f.bits.toNat i.mnemonic := by
  cases i
  case reset => cases hf; exact Frame.selectedAs_byte0 0 0xFF 0x00 rfl (byte_and_ff _)
  case setports a b =>
    rw [Instr.frame?, encSetPorts_setWidth] at hf
    cases hf
    exact Frame.selectedAs 1 ⟨0xFF, 0, 0xFF, 0xE0, 0xFF⟩ ⟨0x04, 0, 0, 0x80, 0⟩ rfl (by simp [setports_byte_fields])
  case setportb b =>
    cases hf
    exact Frame.selectedAs 2 ⟨0xFF, 0, 0xFF, 0xFF, 0xFF⟩ ⟨0x04, 0, 0, 0, 0⟩ rfl (by simp [encSetPortB])
  case schedule a at_ =>
    rw [Instr.frame?, encSchedule_setWidth] at hf
    cases hf
    exact Frame.selectedAs_byte0 3 0xE0 0xE0 rfl (schedule_byte_fields a).1
  case probe => cases hf
  all_goals cases hp

/-- A five-byte string a row selects is read as an instruction of that row. -/
theorem exists_decodeOutbound_of_selected (f : Frame) :
    ∀ row ∈ outboundFrameRows, f.bits.toNat &&& row.mask = row.pattern →
      ∃ i, decodeOutbound f.bytes = .ok i ∧ i.mnemonic = row.mnemonic := by
  intro row hrow hmatch
  change row ∈ [_, _, _, _] at hrow
  simp only [List.mem_cons, List.not_mem_nil, or_false] at hrow
  obtain rfl | rfl | rfl | rfl := hrow
  case inl =>
    have h : f.b0 = 0x00 := by simpa using (f.mask_iff ⟨0xFF, 0, 0, 0, 0⟩ ⟨0x00, 0, 0, 0, 0⟩).mp hmatch
    exact ⟨.reset (u32 f.payload), by simp [decodeOutbound, Frame.bytes, Frame.payload, h], rfl⟩
  case inr.inl =>
    obtain ⟨h0, h2, h3, h4⟩ : f.b0 = 0x04#8 ∧ f.b2 = 0 ∧ f.b3 &&& 0xE0#8 = 0x80#8 ∧ f.b4 = 0 := by
      simpa using (f.mask_iff ⟨0xFF, 0, 0xFF, 0xE0, 0xFF⟩ ⟨0x04, 0, 0, 0x80, 0⟩).mp hmatch
    exact ⟨.setports (low5 f.b3) f.b1, by simp [decodeOutbound, Frame.bytes, h0, h2, h3, h4], rfl⟩
  case inr.inr.inl =>
    have h : f.b0 = 0x04 ∧ f.b2 = 0 ∧ f.b3 = 0 ∧ f.b4 = 0 := by
      simpa using (f.mask_iff ⟨0xFF, 0, 0xFF, 0xFF, 0xFF⟩ ⟨0x04, 0, 0, 0, 0⟩).mp hmatch
    exact ⟨.setportb f.b1, by simp [decodeOutbound, Frame.bytes, h], rfl⟩
  case inr.inr.inr =>
    have h : f.b0 &&& 0xE0#8 = 0xE0#8 := by
      simpa using (f.mask_iff ⟨0xE0, 0, 0, 0, 0⟩ ⟨0xE0, 0, 0, 0, 0⟩).mp hmatch
    exact ⟨.schedule (low5 f.b0) (u32 f.payload),
      by simp [decodeOutbound, Frame.bytes, Frame.payload, ne_of_conflict h, h], rfl⟩

/-- Settles O5: what a decoder reads is well formed and stands for the word it was read from, so the word is selected
by the row of its name, and, the rows being separated, by no other. -/
theorem decodersFollowTheOpcodeTable : Obligations.DecodersFollowTheOpcodeTable := by
  obtain ⟨host, inbound, outbound⟩ := rows_separated
  refine ⟨fun c => ?_, fun f => ?_, fun f row hrow hwidth => ?_⟩
  · exact (selectedAs_of_command? (wf_decodeCommand c) (Machine.command?_decodeCommand c)).iff host
  · obtain ⟨hp, hf, -⟩ := Machine.decodeInbound_readsAs_decodeEvent f
    exact (selectedAs_of_inbound hp (wf_decodeInbound f) hf).iff inbound
  · have hmem : row ∈ outboundFrameRows := List.mem_filter.mpr ⟨hrow, decide_eq_true hwidth⟩
    refine ⟨fun ⟨i, hi, hname⟩ => ?_, exists_decodeOutbound_of_selected f row hmem⟩
    obtain ⟨hp, hf⟩ := frame?_of_decodeOutbound hi
    exact ((selectedAs_of_outbound hp hf).iff outbound row hmem).mp hname

/-! ### Words and values written out -/

/-- Settles O6: each word is decoded as it stands. -/
theorem specWordsDecode : Obligations.SpecWordsDecode := by
  unfold Obligations.SpecWordsDecode
  decide

/-- Counting to `a * b` is counting in `a` blocks of `b`. -/
theorem countP_range_mul (p : Nat → Bool) (a b : Nat) :
    (List.range (a * b)).countP p = ((List.range a).map fun i => (List.range b).countP fun j => p (i * b + j)).sum := by
  induction a with
  | zero => simp
  | succ a ih => simp [Nat.succ_mul, List.range_add, List.range_succ, List.countP_map, Function.comp_def, ih]

/-- Settles O8, counting the sixteen values of each upper nibble of byte 0 (`countP_range_mul`). -/
theorem byteZeroClassCounts : Obligations.ByteZeroClassCounts := by
  unfold Obligations.ByteZeroClassCounts
  simp only [show 256 = 16 * 16 from rfl, countP_range_mul]
  decide

end Sys2Proof
end

section
/-!
SUPPORT. The seven tests of the frame decoder (R140): they exclude each other, they are ranges of byte 0, and what they
say of the encoder's own frames and of the inbound rows.
-/

namespace Sys2Proof

/-! ### At most one test holds -/

/-- The tests of R140 on byte 0 in their order, mask and pattern; the two exact ones stand under the full mask. -/
def byte0Tests : List (Byte × Byte) :=
  [(0xF0, 0x10), (0xF0, 0x20), (0xF0, 0x40), (0xF0, 0x80), (0xFF, 0x04), (0xFF, 0x00), (0xE0, 0xE0)]

/-- Where each member that holds excludes those after it, at most one holds. -/
theorem count_true_le_one {l : List Bool} (h : l.Pairwise fun x y => x = true → y ≠ true) : l.count true ≤ 1 := by
  induction h with
  | nil => exact Nat.zero_le 1
  | @cons x l hx _ ih =>
    cases x with
    | false => simpa using ih
    | true =>
      have none_after : l.count true = 0 := List.count_eq_zero.mpr fun hmem => hx true hmem rfl rfl
      simp [none_after]

/-- The patterns of any two tests differ under both masks (R150). -/
theorem byte0Tests_count_le_one (b : Byte) : (byte0Tests.map fun t => decide (b &&& t.1 = t.2)).count true ≤ 1 := by
  have conflict : byte0Tests.Pairwise fun t u => t.2 &&& u.1 ≠ u.2 &&& t.1 := by decide
  refine count_true_le_one (List.pairwise_map.mpr (conflict.imp fun hne ht hu => ?_))
  exact and_ne_of_conflict (of_decide_eq_true ht) hne (of_decide_eq_true hu)

/-! ### The ordered tests and the map of byte 0 -/

/-- A test of the upper bits of a word is a test of its quotient. -/
theorem and_upper_eq_iff {m k : Nat} (x : BitVec (m + k)) (n : BitVec m) :
    x &&& (BitVec.allOnes m ++ 0#k) = n ++ 0#k ↔ x.toNat / 2 ^ k = n.toNat := by
  obtain ⟨hi, lo, rfl⟩ : ∃ (hi : BitVec m) (lo : BitVec k), x = hi ++ lo :=
    ⟨x.extractLsb' k m, x.extractLsb' 0 k, by
      rw [BitVec.extractLsb'_append_extractLsb'_eq_extractLsb' (Nat.zero_add k).symm, BitVec.extractLsb'_eq_self]⟩
  have quotient : (hi ++ lo).toNat / 2 ^ k = hi.toNat := by
    rw [toNat_append_eq_mul_add, Nat.mul_comm, Nat.mul_add_div (Nat.two_pow_pos k), Nat.div_eq_of_lt lo.isLt,
      Nat.add_zero]
  rw [quotient, BitVec.and_append, BitVec.and_allOnes, BitVec.and_zero, BitVec.append_left_inj, BitVec.toNat_inj]

theorem and_bit7_ne_zero_iff (b : Byte) : b &&& 0x80 ≠ 0 ↔ b.getLsbD 7 = true := by
  rw [show (0x80 : Byte) = BitVec.twoPow 8 7 from rfl, BitVec.and_twoPow]
  cases b.getLsbD 7 <;> decide

/-- The seven tests as ranges of byte 0. -/
theorem byte0_test_iff_quotient (b : Byte) :
    (b &&& 0xF0 = 0x10 ↔ b.toNat / 16 = 1) ∧ (b &&& 0xF0 = 0x20 ↔ b.toNat / 16 = 2) ∧
      (b &&& 0xF0 = 0x40 ↔ b.toNat / 16 = 4) ∧ (b &&& 0xF0 = 0x80 ↔ b.toNat / 16 = 8) ∧
      (b = 0x04 ↔ b.toNat = 4) ∧ (b = 0x00 ↔ b.toNat = 0) ∧ (b &&& 0xE0 = 0xE0 ↔ b.toNat / 32 = 7) :=
  ⟨and_upper_eq_iff (k := 4) b 0x1#4, and_upper_eq_iff (k := 4) b 0x2#4, and_upper_eq_iff (k := 4) b 0x4#4,
    and_upper_eq_iff (k := 4) b 0x8#4, BitVec.toNat_inj.symm, BitVec.toNat_inj.symm,
    and_upper_eq_iff (k := 5) b 0x7#3⟩

/-- The ordered tests give the class of the map of R109: the map is constant on the range of each test, and what the
tests leave are its five Unknown ranges. -/
theorem tag_decodeEvent_eq_classByMap (f : Frame) : (decodeEvent f).tag = classByMap f := by
  simp only [decodeEvent, byte0_test_iff_quotient, and_bit7_ne_zero_iff]
  iterate 4
    refine ite_property (P := (Event.tag · = _)) (fun _ => ?_) fun _ => ?_
    · simp (disch := omega) only [classByMap, if_pos, if_neg, Event.tag]
  refine ite_property (P := (Event.tag · = _)) (fun _ => ?_) fun _ => ?_
  · simp (disch := omega) only [classByMap, if_pos, if_neg]
    cases f.b3.getLsbD 7 <;> rfl
  iterate 2
    refine ite_property (P := (Event.tag · = _)) (fun _ => ?_) fun _ => ?_
    · simp (disch := omega) only [classByMap, if_pos, if_neg, Event.tag]
  obtain h | h | h | h | h : (1 ≤ f.b0.toNat ∧ f.b0.toNat ≤ 0x03) ∨ (0x05 ≤ f.b0.toNat ∧ f.b0.toNat ≤ 0x0F) ∨
      (0x30 ≤ f.b0.toNat ∧ f.b0.toNat ≤ 0x3F) ∨ (0x50 ≤ f.b0.toNat ∧ f.b0.toNat ≤ 0x7F) ∨
      (0x90 ≤ f.b0.toNat ∧ f.b0.toNat ≤ 0xDF) := by omega
  all_goals simp (disch := omega) only [classByMap, if_pos, if_neg, Event.tag]

/-- Settles O7: the exclusion is `byte0Tests_count_le_one`, the agreement `tag_decodeEvent_eq_classByMap`. -/
theorem priorityTestsEqualTheByteMap : Obligations.PriorityTestsEqualTheByteMap := fun f =>
  ⟨by simpa [byte0Tests] using byte0Tests_count_le_one f.b0, tag_decodeEvent_eq_classByMap f⟩

/-! ### The encoder's own frames -/

theorem decodeEvent_portsSet {f : Frame} (h0 : f.b0 = 0x04) (h3 : f.b3 &&& 0x80 ≠ 0) :
    decodeEvent f = .portsSet (low5 f.b3) f.b1 := by
  simp only [decodeEvent, h0, if_pos h3]
  rfl

/-- The test for a schedule frame excludes the six before it. -/
theorem decodeEvent_scheduledOutput {f : Frame} (h : f.b0 &&& 0xE0#8 = 0xE0#8) :
    decodeEvent f = .scheduledOutput (low5 f.b0) (u32 f.payload) := by
  simp [decodeEvent, and_ne_of_conflict h, ne_of_conflict h, h]

/-- A Port A byte of the encoders keeps its fixed bits, and carries the masked operand below them (R172, R174). -/
theorem fixed_or_port_a {p : Byte} (hp : low5 p = 0) (a : Byte) :
    (p ||| (a &&& 0x1F)) &&& p = p ∧ low5 (p ||| (a &&& 0x1F)) = (a &&& 0x1F).extractLsb' 0 5 := by
  constructor
  · ext i
    simp only [BitVec.getElem_and, BitVec.getElem_or]
    cases p[i] <;> simp
  · rw [low5, BitVec.extractLsb'_or, ← low5, hp]
    exact BitVec.zero_or

/-- Settles O9: the bytes the tests read are constant, but for the Port A byte, which is `fixed_or_port_a`. -/
theorem encodedCommandsDecodeToTheirEvents : Obligations.EncodedCommandsDecodeToTheirEvents := by
  refine ⟨fun ack => ?_, fun a b => ?_, fun b => ?_, fun a at_ => ?_⟩
  · simp [decodeEvent, encReset]
  · obtain ⟨hfixed, hport⟩ := fixed_or_port_a (p := 0x80) rfl a
    rw [encSetPorts, decodeEvent_portsSet rfl (by simp only [hfixed]; decide), hport]
  · simp [decodeEvent, encSetPortB]
  · obtain ⟨hfixed, hport⟩ := fixed_or_port_a (p := 0xE0) rfl a
    rw [encSchedule, decodeEvent_scheduledOutput hfixed, Payload.withByte0_b0, hport, Payload.withByte0_payload,
      u32_be32]

/-! ### The inbound rows -/

namespace Machine

/-- Settles O34: the row is the one decoded from its frame (`decodeInbound_of_frame?`), and running that one delivers
the frame under the class of its event (`exec_decodeInbound`). -/
theorem inboundRowsDeliverTheirEvent : Obligations.InboundRowsDeliverTheirEvent := by
  intro i f s hp hw hf
  rw [← decodeInbound_of_frame? hp hw hf, exec_decodeInbound]
  rfl

end Machine

end Sys2Proof
end

section
/-!
SUPPORT. The frame encoder (R170 to R176): the values of byte 0 it can produce, and the probe reply.
-/

namespace Sys2Proof

/-- R171 to R174: byte 0 is constant but for SCHEDULE, which puts Port A below its three fixed bits. -/
theorem outbound_byte0 {i : Instr} {f : Frame} (hp : i.port = .tx) (hf : i.frame? = some f) :
    f.b0 = 0x00 ∨ f.b0 = 0x04 ∨ f.b0 &&& 0xE0 = 0xE0 := by
  cases i
  case reset => cases hf; exact .inl rfl
  case setports => cases hf; exact .inr (.inl rfl)
  case setportb => cases hf; exact .inr (.inl rfl)
  case schedule => cases hf; exact .inr (.inr (fixed_or_port_a rfl _).1)
  case probe => cases hf
  all_goals cases hp

/-- The same in arithmetic, where the high nibble and the bounds of R176 are compared. -/
theorem outbound_byte0_range {i : Instr} {f : Frame} (hp : i.port = .tx) (hf : i.frame? = some f) :
    f.b0.toNat = 0 ∨ f.b0.toNat = 4 ∨ f.b0.toNat / 32 = 7 := by
  obtain ⟨-, -, -, -, four, zero, schedule⟩ := byte0_test_iff_quotient f.b0
  rw [← zero, ← four, ← schedule]
  exact outbound_byte0 hp hf

/-- Settles O11: in the ranges of `outbound_byte0_range` the high nibble is 0x0, 0xE or 0xF. -/
theorem outboundByteZeroIsNeverADeviceClass : Obligations.OutboundByteZeroIsNeverADeviceClass := by
  intro i f hp hf
  have range := outbound_byte0_range hp hf
  have nibble : (f.b0 >>> 4).toNat = f.b0.toNat / 16 := by rw [BitVec.toNat_ushiftRight, Nat.shiftRight_eq_div_pow]
  refine ⟨?_, by omega, by omega⟩
  simp only [List.mem_cons, List.not_mem_nil, or_false, ← BitVec.toNat_inj, nibble, BitVec.reduceToNat]
  omega

/-- Settles O10: the reply is the frame of a schedule command, and reads as one by O9. -/
theorem probeReplyIsAScheduleFrame : Obligations.ProbeReplyIsAScheduleFrame := by
  obtain ⟨-, -, -, scheduleDecodes⟩ := encodedCommandsDecodeToTheirEvents
  have sameBytes : encSchedule 0 0x7F0F552A = probeReply := by decide
  exact ⟨rfl, rfl, sameBytes ▸ scheduleDecodes 0 0x7F0F552A, sameBytes⟩

end Sys2Proof
end

section
/-!
SUPPORT. The clock model (R190 to R195): which integers `roundNearest` can answer, and the conversion of seconds on each
side of zero.
-/

namespace Sys2Proof.Machine

/-- R192: rounding goes down from at most a half and up from at least a half, whichever way ties go. -/
theorem roundNearest_cases (ties : RoundTies) (y : ℚ) :
    roundNearest ties y = ⌊y⌋ ∧ y - ⌊y⌋ ≤ 1 / 2 ∨ roundNearest ties y = ⌊y⌋ + 1 ∧ 1 / 2 ≤ y - ⌊y⌋ := by
  rcases lt_trichotomy (y - ⌊y⌋) (1 / 2) with below | tie | above
  · exact .inl ⟨if_pos below, below.le⟩
  · have atTie : roundNearest ties y = ⌊y⌋ ∨ roundNearest ties y = ⌊y⌋ + 1 := by
      cases ties with
      | halfUp => exact .inr (by simp [roundNearest, tie])
      | halfEven => simpa [roundNearest, tie] using em (⌊y⌋ % 2 = 0)
    exact atTie.imp (⟨·, tie.le⟩) (⟨·, tie.ge⟩)
  · exact .inr ⟨(if_neg above.not_gt).trans (if_pos above), above.le⟩

theorem abs_sub_roundNearest_le_half (ties : RoundTies) (y : ℚ) : |y - roundNearest ties y| ≤ 1 / 2 := by
  have belowNext := Int.lt_floor_add_one y
  have aboveFloor := Int.floor_le y
  rw [abs_le]
  rcases roundNearest_cases ties y with ⟨down, gap⟩ | ⟨up, gap⟩
  · rw [down]
    constructor <;> linarith
  · rw [up, Int.cast_add, Int.cast_one]
    constructor <;> linarith

@[simp] theorem roundNearest_natCast (ties : RoundTies) (n : ℕ) : roundNearest ties (n : ℚ) = n := by
  simp [roundNearest]

theorem secondsToTicks_of_neg {cfg : Config} {x : ℚ} (h : x < 0) : secondsToTicks cfg x = none := if_pos h

theorem secondsToTicks_of_nonneg {cfg : Config} {x : ℚ} (h : 0 ≤ x) :
    secondsToTicks cfg x = some (BitVec.ofInt 32 (roundNearest cfg.roundTies (x * cfg.tickRate))) := if_neg h.not_gt

theorem ticksToSeconds_nonneg (cfg : Config) (t : Tick) : 0 ≤ ticksToSeconds cfg t :=
  div_nonneg t.toNat.cast_nonneg cfg.tickRate.cast_nonneg

theorem ticksToSeconds_mul_tickRate {cfg : Config} (h : 0 < cfg.tickRate) (t : Tick) :
    ticksToSeconds cfg t * cfg.tickRate = t.toNat :=
  div_mul_cancel₀ _ (Nat.cast_ne_zero.mpr h.ne')

/-- Settles O52: the product with the rate is the tick's own number, an integer, so rounding has no tie to break. -/
theorem tickSurvivesTheSecondsProjection : Obligations.TickSurvivesTheSecondsProjection := by
  intro cfg t hrate
  rw [secondsToTicks_of_nonneg (ticksToSeconds_nonneg cfg t), ticksToSeconds_mul_tickRate hrate, roundNearest_natCast,
    BitVec.ofInt_natCast, BitVec.ofNat_toNat, BitVec.setWidth_eq]

/-- Settles O53: the integer is the one `roundNearest` answers. -/
theorem secondsRoundToTheNearestTick : Obligations.SecondsRoundToTheNearestTick := fun cfg x =>
  ⟨fun hx => ⟨roundNearest cfg.roundTies (x * cfg.tickRate), abs_sub_roundNearest_le_half _ _, secondsToTicks_of_nonneg hx⟩,
    secondsToTicks_of_neg⟩

end Sys2Proof.Machine
end

section
/-!
SUPPORT. What the bounded wait returns (R203, R208): the answers to come take one of three forms, and the form decides
the result and the state the wait leaves.
-/

namespace Sys2Proof.Machine

variable {s : State} {expect : Frame} {limit : Nat} {rs : List RxAnswer}

/-! ### The three forms of the answers (R208) -/

/-- The answers of a wait, in one of the three forms. -/
def WaitAnswers (expect : Frame) (limit : Nat) (rs : List RxAnswer) : Prop :=
  MatchedWait expect limit rs ∨ EmptyWait expect limit rs ∨ ExhaustedWait expect limit rs

/-- Another miss before the answers of a wait: the answers of a wait with a limit one higher. -/
theorem WaitAnswers.cons {r : RxAnswer} (h : WaitAnswers expect limit rs) (hr : Miss expect r) :
    WaitAnswers expect (limit + 1) (r :: rs) := by
  rcases h with ⟨ms, rfl, hlen, hmiss⟩ | ⟨ms, rfl, hlen, hmiss⟩ | ⟨hlen, hmiss⟩
  · exact .inl ⟨r :: ms, rfl, Nat.succ_lt_succ hlen, List.forall_mem_cons.2 ⟨hr, hmiss⟩⟩
  · exact .inr (.inl ⟨r :: ms, rfl, Nat.succ_lt_succ hlen, List.forall_mem_cons.2 ⟨hr, hmiss⟩⟩)
  · exact .inr (.inr ⟨congrArg (· + 1) hlen, List.forall_mem_cons.2 ⟨hr, hmiss⟩⟩)

/-- Whatever the environment answers, it answers in one of the three forms. -/
theorem exists_waitAnswers (expect : Frame) (limit : Nat) (s : State) :
    ∃ rs, upcoming s rs.length = rs ∧ WaitAnswers expect limit rs := by
  induction limit generalizing s with
  | zero => exact ⟨[], rfl, .inr (.inr ⟨rfl, nofun⟩)⟩
  | succ n ih =>
    rcases answer_cases expect (nextAnswer s) with hr | hr | hr
    · exact ⟨[.empty], upcoming_cons.2 ⟨hr, rfl⟩, .inr (.inl ⟨[], rfl, n.succ_pos, nofun⟩)⟩
    · exact ⟨[.full expect], upcoming_cons.2 ⟨hr, rfl⟩, .inl ⟨[], rfl, n.succ_pos, nofun⟩⟩
    · obtain ⟨rs, hup, hrs⟩ := ih (rxRead s)
      exact ⟨nextAnswer s :: rs, upcoming_cons.2 ⟨rfl, hup⟩, hrs.cons hr⟩

/-- A wait reads at least once and at most as often as its limit says. -/
theorem WaitAnswers.length_bounds (h : WaitAnswers expect limit rs) (hlimit : 1 ≤ limit) :
    1 ≤ rs.length ∧ rs.length ≤ limit := by
  rcases h with ⟨ms, rfl, hlen, -⟩ | ⟨ms, rfl, hlen, -⟩ | ⟨rfl, -⟩
  · simp; omega
  · simp; omega
  · exact ⟨hlimit, le_rfl⟩

/-! ### What `CNT` counts (R29) -/

theorem nonEmptyReads_of_misses (hmiss : ∀ r ∈ rs, Miss expect r) : nonEmptyReads rs = rs.length :=
  List.countP_eq_length.2 fun r hr => decide_eq_true (hmiss r hr).1

theorem MatchedWait.nonEmptyReads (h : MatchedWait expect limit rs) : nonEmptyReads rs = rs.length := by
  obtain ⟨ms, rfl, -, hmiss⟩ := h
  have hms := nonEmptyReads_of_misses hmiss
  simp_all [Machine.nonEmptyReads]

theorem EmptyWait.nonEmptyReads (h : EmptyWait expect limit rs) : nonEmptyReads rs = rs.length - 1 := by
  obtain ⟨ms, rfl, -, hmiss⟩ := h
  have hms := nonEmptyReads_of_misses hmiss
  simp_all [Machine.nonEmptyReads]

/-- `CNT` can count one more read below 31 (R29, R196). -/
theorem cnt_add_one_toNat {cnt : BitVec 5} (h : cnt.toNat < 31) : (cnt + 1).toNat = cnt.toNat + 1 :=
  BitVec.toNat_add_of_lt (Nat.succ_lt_succ h)

/-! ### What the wait answers (R203) -/

/-- The state a wait leaves once its reads were answered with `rs`: `EXPECT` and `CNT` are its own, the answers are
consumed and traced. -/
def waited (expect : Frame) (rs : List RxAnswer) (s : State) : State :=
  { afterReads rs s with expect := expect, cnt := BitVec.ofNat 5 (nonEmptyReads rs) }

/-- Reads that were all counted, from the start of a wait. -/
theorem countedReads_armWait (h : nonEmptyReads rs = rs.length) :
    countedReads rs (armWait expect s) = waited expect rs s := by
  simp [countedReads, waited, afterReads, armWait, h]

/-- The wait returns at the first answer that is no miss, or is the last the limit allows. -/
theorem waitReply_ends {ms : List RxAnswer} {r : RxAnswer} {w : WaitResult} (hmiss : ∀ x ∈ ms, Miss expect x)
    (hlen : ms.length < limit) (hlimit : limit ≤ 31) (hup : upcoming s (ms ++ [r]).length = ms ++ [r])
    (hend : turnVerdict limit (countedReads ms (armWait expect s)) = some w) :
    waitReply expect limit s = (w, waitTurn (countedReads ms (armWait expect s))) := by
  obtain ⟨hms, -⟩ := upcoming_append.1 hup
  rw [waitReply, waitLoop_misses (s := armWait expect s) hms hmiss hlimit (by simpa using hlen)
    (show limit = limit - ms.length - 1 + 1 + ms.length by omega), waitLoop_ends hend]

theorem waitReply_of_matchedWait (h : MatchedWait expect limit rs) (hlimit : limit ≤ 31)
    (hup : upcoming s rs.length = rs) : waitReply expect limit s = (.matched, waited expect rs s) := by
  rw [waitReply_matched h hlimit hup, countedReads_armWait h.nonEmptyReads]

theorem waitReply_of_emptyWait (h : EmptyWait expect limit rs) (hlimit : limit ≤ 31)
    (hup : upcoming s rs.length = rs) : waitReply expect limit s = (.empty, waited expect rs s) := by
  have hcount := h.nonEmptyReads
  obtain ⟨ms, rfl, hlen, hmiss⟩ := h
  have hlast : nextAnswer (countedReads ms (armWait expect s)) = .empty :=
    (upcoming_cons.1 (upcoming_append.1 hup).2).1
  obtain ⟨hv, hturn⟩ := turn_empty limit hlast
  rw [waitReply_ends hmiss hlen hlimit hup hv, hturn, rxRead, hlast]
  simp [countedReads, waited, afterReads, armWait, hcount, rxTrace]

theorem waitReply_of_exhaustedWait (h : ExhaustedWait expect limit rs) (hlimit : limit ≤ 31) (hpos : 1 ≤ limit)
    (hup : upcoming s rs.length = rs) : waitReply expect limit s = (.exhausted, waited expect rs s) := by
  obtain ⟨hlen, hmiss⟩ := h
  have hcount := nonEmptyReads_of_misses hmiss
  obtain rfl | ⟨ms, r, rfl⟩ := List.eq_nil_or_concat' rs
  · exact absurd hlen (by simp; omega)
  obtain ⟨hms, hr⟩ := List.forall_mem_append.1 hmiss
  rw [List.length_append, List.length_singleton] at hlen
  have hlast : nextAnswer (countedReads ms (armWait expect s)) = r :=
    (upcoming_cons.1 (upcoming_append.1 hup).2).1
  have hcnt : (countedReads ms (armWait expect s)).cnt.toNat = ms.length := countedReads_armWait_cnt (by omega) _ _
  obtain ⟨hv, hturn⟩ := turn_missed (s := countedReads ms (armWait expect s)) limit
    (hlast ▸ hr r (List.mem_singleton_self r))
  rw [if_pos (by rw [cnt_add_one_toNat (by omega), hcnt]; exact hlen)] at hv
  rw [waitReply_ends hms (by omega) hlimit hup hv, hturn, ← countedReads_armWait hcount, countedReads_append,
    countedReads_cons hlast, countedReads_nil]

/-- Settles O20: one of the three forms always applies (`exists_waitAnswers`), and each has its lemma on `waitReply`. -/
theorem boundedWaitReturns : Obligations.BoundedWaitReturns := by
  intro s expect limit hpos hmax
  refine ⟨?_, fun rs hup => ⟨fun h => ?_, fun h => ?_, fun h => ?_⟩⟩
  · obtain ⟨rs, hup, hrs⟩ := exists_waitAnswers expect limit s
    obtain ⟨hlow, hhigh⟩ := hrs.length_bounds hpos
    exact ⟨rs, hup, hlow, hhigh, hrs⟩
  · rw [waitReply_of_matchedWait h hmax hup, waited, h.nonEmptyReads]
  · rw [waitReply_of_emptyWait h hmax hup, waited, h.nonEmptyReads]
  · rw [waitReply_of_exhaustedWait h hmax hpos hup, waited, nonEmptyReads_of_misses h.2, h.1]

end Sys2Proof.Machine
end

section
/-!
SUPPORT. The alignment procedure (R204, R209): attempts whose answers make them fail, the attempt that matches or the
sixth that fails, and the statements on ALIGN.
-/

namespace Sys2Proof.Machine

variable {s : State} {b : List RxAnswer} {bs : List (List RxAnswer)}

/-! ### Attempts -/

/-- The state an attempt leaves once its reads were answered with `b` (R204). -/
def attempted (b : List RxAnswer) (s : State) : State :=
  waited probeReply b (countAttempt (txWrite probeBytes s))

/-- The state after several attempts, the first one's answers first. -/
def afterAttempts (bs : List (List RxAnswer)) (s : State) : State := bs.foldl (fun t b => attempted b t) s

theorem alignAttempt_of_matchedWait (h : MatchedWait probeReply s.cfg.alignWaitFrames b) (hcfg : s.cfg.wf)
    (hup : upcoming s b.length = b) : alignAttempt s = (.matched, attempted b s) :=
  waitReply_of_matchedWait h hcfg.2.2 hup

theorem alignAttempt_of_failedAttempt (h : FailedAttempt s.cfg.alignWaitFrames b) (hcfg : s.cfg.wf)
    (hup : upcoming s b.length = b) : ∃ w, alignAttempt s = (w, attempted b s) ∧ w ≠ .matched := by
  obtain ⟨-, hpos, hmax⟩ := hcfg
  rcases h with h | h
  · exact ⟨_, waitReply_of_emptyWait h hmax hup, nofun⟩
  · exact ⟨_, waitReply_of_exhaustedWait h hmax hpos hup, nofun⟩

theorem afterAttempts_concat (bs : List (List RxAnswer)) (b : List RxAnswer) (s : State) :
    afterAttempts (bs ++ [b]) s = attempted b (afterAttempts bs s) := List.foldl_concat ..

/-- Attempts write a probe each, make their reads, and leave the registers of the last (R204, R28, R29). -/
theorem afterAttempts_eq (bs : List (List RxAnswer)) (b : List RxAnswer) (s : State) :
    afterAttempts (bs ++ [b]) s = { s with
      att := s.att + BitVec.ofNat 3 (bs.length + 1), cnt := BitVec.ofNat 5 (nonEmptyReads b), expect := probeReply,
      rx := s.rx.drop (bs ++ [b]).flatten.length, tx := s.tx ++ probes (bs.length + 1),
      trace := s.trace ++ attemptsTrace (bs ++ [b]) } := by
  induction bs generalizing s with
  | nil => simp [afterAttempts, attempted, waited, afterReads, countAttempt, txWrite, probes, attemptsTrace]
  | cons a as ih =>
    rw [List.cons_append, afterAttempts, List.foldl_cons, ← afterAttempts, ih]
    simp [attempted, waited, afterReads, probes, attemptsTrace, List.replicate_succ,
      BitVec.ofNat_add, BitVec.add_assoc, BitVec.add_comm]

/-- What attempts leave unchanged and what they consume, however many there are. -/
theorem afterAttempts_frame (bs : List (List RxAnswer)) (s : State) :
    (afterAttempts bs s).cfg = s.cfg ∧ (afterAttempts bs s).rx = s.rx.drop bs.flatten.length ∧
      (afterAttempts bs s).att = s.att + BitVec.ofNat 3 bs.length := by
  obtain rfl | ⟨as, a, rfl⟩ := List.eq_nil_or_concat' bs
  · exact ⟨rfl, rfl, (BitVec.add_zero _).symm⟩
  · rw [afterAttempts_eq, List.length_append]
    exact ⟨rfl, rfl, rfl⟩

/-! ### The loop -/

/-- The loop goes through attempts that fail, as long as the sixth is not among them. -/
theorem alignLoop_of_failedAttempts (hfails : ∀ b ∈ bs, FailedAttempt s.cfg.alignWaitFrames b) (hcfg : s.cfg.wf)
    (hup : upcoming s bs.flatten.length = bs.flatten) (hatt : s.att.toNat + bs.length < maxAlignAttempts)
    (fuel : Nat) : alignLoop (bs.length + fuel) s = alignLoop fuel (afterAttempts bs s) := by
  induction bs generalizing s with
  | nil => rw [List.length_nil, Nat.zero_add]; rfl
  | cons b bs ih =>
    obtain ⟨hb, hfails⟩ := List.forall_mem_cons.1 hfails
    obtain ⟨hupb, hup⟩ := upcoming_append.1 hup
    rw [List.length_cons] at hatt
    obtain ⟨w, hw, hne⟩ := alignAttempt_of_failedAttempt hb hcfg hupb
    have hnext : (attempted b s).att.toNat = s.att.toNat + 1 := by
      rw [← alignAttempt_att (s := s) (by omega), hw]
    rw [List.length_cons, Nat.add_right_comm, alignLoop_retries hw hne, if_neg (by omega)]
    exact ih hfails hcfg hup (by omega)

/-- The answers to an attempt are those that come after the answers to the attempts before it. -/
theorem upcoming_afterAttempts (hup : upcoming s (bs.flatten ++ b).length = bs.flatten ++ b) :
    upcoming (afterAttempts bs s) b.length = b := by
  obtain ⟨-, hrx, -⟩ := afterAttempts_frame bs s
  rw [upcoming_congr (t := afterReads bs.flatten s) hrx, (upcoming_append.1 hup).2]

/-- ALIGN, where the answers make fewer than six attempts fail and the next one match. -/
theorem alignProcedure_matches (hfails : ∀ a ∈ bs, FailedAttempt s.cfg.alignWaitFrames a)
    (hlen : bs.length < maxAlignAttempts) (hlast : MatchedWait probeReply s.cfg.alignWaitFrames b) (hcfg : s.cfg.wf)
    (hup : upcoming s (bs.flatten ++ b).length = bs.flatten ++ b) :
    alignProcedure s = alignSuccess (afterAttempts (bs ++ [b]) (startAlign s)) := by
  obtain ⟨hsame, -, -⟩ := afterAttempts_frame bs (startAlign s)
  obtain ⟨fuel, hfuel⟩ := Nat.exists_eq_add_of_lt hlen
  rw [Nat.add_assoc] at hfuel
  rw [alignProcedure, hfuel, alignLoop_of_failedAttempts (s := startAlign s) hfails hcfg (upcoming_append.1 hup).1
    (by simpa using hlen), afterAttempts_concat]
  exact alignLoop_succeeds (alignAttempt_of_matchedWait (by rwa [hsame]) (by rwa [hsame]) (upcoming_afterAttempts hup))

/-- ALIGN, where the answers make six attempts fail. -/
theorem alignProcedure_fails (hfails : ∀ a ∈ bs, FailedAttempt s.cfg.alignWaitFrames a)
    (hlen : bs.length = maxAlignAttempts) (hcfg : s.cfg.wf) (hup : upcoming s bs.flatten.length = bs.flatten) :
    alignProcedure s = alignFailure (afterAttempts bs (startAlign s)) := by
  obtain rfl | ⟨as, b, rfl⟩ := List.eq_nil_or_concat' bs
  · cases hlen
  obtain ⟨hfails, hb⟩ := List.forall_mem_append.1 hfails
  rw [List.length_append, List.length_singleton] at hlen
  rw [List.flatten_concat] at hup
  obtain ⟨hsame, -, hatt⟩ := afterAttempts_frame as (startAlign s)
  obtain ⟨w, hw, hne⟩ := alignAttempt_of_failedAttempt (s := afterAttempts as (startAlign s))
    (by rw [hsame]; exact hb b (List.mem_singleton_self b)) (by rwa [hsame]) (upcoming_afterAttempts hup)
  have hsixth : (afterAttempts (as ++ [b]) (startAlign s)).att.toNat = maxAlignAttempts := by
    rw [afterAttempts_eq, hlen]; rfl
  rw [alignProcedure, ← hlen, alignLoop_of_failedAttempts (s := startAlign s) hfails hcfg (upcoming_append.1 hup).1
    (by simp; omega), alignLoop_retries hw hne, ← afterAttempts_concat, if_pos hsixth]

/-- Settles O21: the procedure is `alignProcedure_matches`, the state it ends in `afterAttempts_eq`. -/
theorem alignSucceedsOnTheMatchingAttempt : Obligations.AlignSucceedsOnTheMatchingAttempt := by
  intro s pa pb arg fails last hfree hcfg hlen hfails hlast hup
  rw [exec_eq_operate rfl, operate_free hfree, hostBody,
    alignProcedure_matches (s := issue ⟨0x01, pa, pb, arg⟩ s) hfails hlen hlast hcfg hup, afterAttempts_eq,
    hlast.nonEmptyReads]
  simp [alignSuccess, report, setReported, startAlign, issue, setIssued]

/-- Settles O22: the procedure is `alignProcedure_fails`, the state it ends in `afterAttempts_eq`. -/
theorem alignFailsAfterSixAttempts : Obligations.AlignFailsAfterSixAttempts := by
  intro s pa pb arg fails hfree hcfg hlen hfails hup
  rw [exec_eq_operate rfl, operate_free hfree, hostBody,
    alignProcedure_fails (s := issue ⟨0x01, pa, pb, arg⟩ s) hfails hlen hcfg hup]
  obtain rfl | ⟨as, b, rfl⟩ := List.eq_nil_or_concat' fails
  · cases hlen
  rw [List.length_append, List.length_singleton] at hlen
  rw [afterAttempts_eq, hlen]
  simp [alignFailure, report, setReported, startAlign, issue, setIssued]

end Sys2Proof.Machine
end

section
/-!
SUPPORT. How many transactions an operation makes (R209, R211): TRACE counted, the attempts ALIGN makes whatever the
environment answers, and the statements on the bounds.
-/

namespace Sys2Proof.Machine

variable {s : State}

/-! ### Writes and reads on TRACE -/

@[simp] theorem txCount_append (a b : List TraceEvent) : txCount (a ++ b) = txCount a + txCount b :=
  List.countP_append

@[simp] theorem rxCount_append (a b : List TraceEvent) : rxCount (a ++ b) = rxCount a + rxCount b :=
  List.countP_append

@[simp] theorem txCount_cons_tx (bs : List Byte) (tr : List TraceEvent) : txCount (.tx bs :: tr) = txCount tr + 1 :=
  List.countP_cons_of_pos rfl

@[simp] theorem rxCount_cons_tx (bs : List Byte) (tr : List TraceEvent) : rxCount (.tx bs :: tr) = rxCount tr :=
  List.countP_cons_of_neg nofun

@[simp] theorem txCount_rxTrace (rs : List RxAnswer) : txCount (rxTrace rs) = 0 := by
  simp [txCount, rxTrace]

@[simp] theorem rxCount_rxTrace (rs : List RxAnswer) : rxCount (rxTrace rs) = rs.length := by
  simp [rxCount, rxTrace]

theorem attemptsTrace_cons (b : List RxAnswer) (bs : List (List RxAnswer)) :
    attemptsTrace (b :: bs) = .tx probeBytes :: (rxTrace b ++ attemptsTrace bs) := List.flatMap_cons

/-- An attempt is one write and its reads. -/
theorem attemptsTrace_counts (bs : List (List RxAnswer)) :
    txCount (attemptsTrace bs) = bs.length ∧ rxCount (attemptsTrace bs) = bs.flatten.length := by
  induction bs with
  | nil => exact ⟨rfl, rfl⟩
  | cons b bs ih => simp [attemptsTrace_cons, ih]

/-! ### The attempts of ALIGN -/

/-- Whatever the environment answers, the first attempts fail up to one that matches, or they all fail. -/
theorem exists_attempts (limit n : Nat) (s : State) :
    ∃ fails : List (List RxAnswer), (∀ a ∈ fails, FailedAttempt limit a) ∧
      (fails.length = n ∧ upcoming s fails.flatten.length = fails.flatten ∨
        fails.length < n ∧ ∃ last, MatchedWait probeReply limit last ∧
          upcoming s (fails.flatten ++ last).length = fails.flatten ++ last) := by
  induction n generalizing s with
  | zero => exact ⟨[], nofun, .inl ⟨rfl, rfl⟩⟩
  | succ n ih =>
    obtain ⟨b, hb, hmatch | hfail⟩ := exists_waitAnswers probeReply limit s
    · exact ⟨[], nofun, .inr ⟨n.succ_pos, b, hmatch, hb⟩⟩
    · obtain ⟨fails, hfails, hend⟩ := ih (afterReads b s)
      refine ⟨b :: fails, List.forall_mem_cons.2 ⟨hfail, hfails⟩, ?_⟩
      rcases hend with ⟨hlen, hup⟩ | ⟨hlen, last, hlast, hup⟩
      · exact .inl ⟨congrArg (· + 1) hlen, upcoming_append.2 ⟨hb, hup⟩⟩
      · refine .inr ⟨Nat.succ_lt_succ hlen, last, hlast, ?_⟩
        rw [List.flatten_cons, List.append_assoc]
        exact upcoming_append.2 ⟨hb, hup⟩

/-- ALIGN makes 1 to 6 attempts, each a whole wait, and ends in a success or after the sixth (R209). -/
theorem alignProcedure_attempts (hcfg : s.cfg.wf) :
    ∃ bs b, bs.length + 1 ≤ maxAlignAttempts ∧
      (∀ a ∈ bs ++ [b], WaitAnswers probeReply s.cfg.alignWaitFrames a) ∧
      (alignProcedure s = alignSuccess (afterAttempts (bs ++ [b]) (startAlign s)) ∨
        bs.length + 1 = maxAlignAttempts ∧
          alignProcedure s = alignFailure (afterAttempts (bs ++ [b]) (startAlign s))) := by
  obtain ⟨fails, hfails, ⟨hlen, hup⟩ | ⟨hlen, last, hlast, hup⟩⟩ :=
    exists_attempts s.cfg.alignWaitFrames maxAlignAttempts s
  · have hend := alignProcedure_fails hfails hlen hcfg hup
    obtain rfl | ⟨bs, b, rfl⟩ := List.eq_nil_or_concat' fails
    · cases hlen
    · rw [List.length_append, List.length_singleton] at hlen
      exact ⟨bs, b, hlen.le, fun a ha => .inr (hfails a ha), .inr ⟨hlen, hend⟩⟩
  · exact ⟨fails, last, hlen,
      List.forall_mem_append.2 ⟨fun a ha => .inr (hfails a ha), List.forall_mem_singleton.2 (.inl hlast)⟩,
      .inl (alignProcedure_matches hfails hlen hlast hcfg hup)⟩

/-- Reads made in whole waits: at least one a wait, and at most the limit. -/
theorem flatten_length_bounds {expect : Frame} {limit : Nat} {bs : List (List RxAnswer)} (hlimit : 1 ≤ limit)
    (hbs : ∀ a ∈ bs, WaitAnswers expect limit a) :
    bs.length ≤ bs.flatten.length ∧ bs.flatten.length ≤ bs.length * limit := by
  induction bs with
  | nil => exact ⟨le_rfl, Nat.zero_le _⟩
  | cons b bs ih =>
    obtain ⟨hb, hbs⟩ := List.forall_mem_cons.1 hbs
    obtain ⟨hlow, hhigh⟩ := hb.length_bounds hlimit
    obtain ⟨ihlow, ihhigh⟩ := ih hbs
    rw [List.flatten_cons, List.length_append, List.length_cons, Nat.succ_mul]
    omega

/-- Settles O23: the attempts are `alignProcedure_attempts`, and `attemptsTrace_counts` counts what they trace. -/
theorem alignAlwaysEnds : Obligations.AlignAlwaysEnds := by
  intro s pa pb arg hfree hcfg
  obtain ⟨bs, b, hlen, hbs, hend⟩ := alignProcedure_attempts (s := issue ⟨0x01, pa, pb, arg⟩ s) hcfg
  obtain ⟨hlow, hhigh⟩ := flatten_length_bounds hcfg.2.1 hbs
  obtain ⟨htx, hrx⟩ := attemptsTrace_counts (bs ++ [b])
  rw [List.length_append, List.length_singleton] at hlow hhigh htx
  have hreads : (bs ++ [b]).flatten.length ≤ 6 * s.cfg.alignWaitFrames :=
    hhigh.trans (Nat.mul_le_mul_right _ hlen)
  have hatt : (BitVec.ofNat 3 (bs.length + 1)).toNat = bs.length + 1 :=
    Nat.mod_eq_of_lt (Nat.lt_of_le_of_lt hlen (by decide))
  refine ⟨_, attemptsTrace (bs ++ [b]), by rw [exec_eq_operate rfl, operate_free hfree, hostBody], ?_⟩
  rw [htx, hrx]
  rcases hend with hend | ⟨hsix, hend⟩ <;> rw [hend, afterAttempts_eq]
  · exact ⟨rfl, Nat.le_add_left _ _, hlen, by simpa using hatt, rfl, (Nat.le_add_left _ _).trans hlow, hreads, rfl,
      ⟨rfl, rfl, rfl⟩, .inl ⟨rfl, rfl, rfl⟩⟩
  · exact ⟨rfl, Nat.le_add_left _ _, hlen, by simpa using hatt, rfl, (Nat.le_add_left _ _).trans hlow, hreads, rfl,
      ⟨rfl, rfl, rfl⟩, .inr ⟨rfl, rfl, rfl, by rw [hsix]; rfl⟩⟩

/-- RSTCLK traces its write and the reads of its wait; without a wait the write alone (R242). -/
theorem rstclkBody_trace (arg : Tick) (s : State) :
    ∃ rs : List RxAnswer, (rstclkBody arg s).trace = s.trace ++ .tx (encReset arg).bytes :: rxTrace rs ∧
      rs.length ≤ maxWaitFrames ∧ (arg = 0 → rs = []) := by
  unfold rstclkBody
  split_ifs with h0
  · exact ⟨[], rfl, Nat.zero_le _, fun _ => rfl⟩
  · obtain ⟨o, e, hr, -⟩ := reportAck_reports
      (waitReply (encReset arg) maxWaitFrames (txWrite (encReset arg).bytes s))
    obtain ⟨rs, cnt, hw, hlen⟩ := waitReply_frame (encReset arg) maxWaitFrames (txWrite (encReset arg).bytes s)
    exact ⟨rs, by simp [hr, hw, afterReads], hlen, fun h => absurd h h0⟩

/-- RDMSG traces its read, and the event if the read was full (R246). -/
theorem rdmsgBody_trace (s : State) :
    ∃ new, (rdmsgBody s).trace = s.trace ++ new ∧ txCount new = 0 ∧ rxCount new = 1 := by
  unfold rdmsgBody
  rcases takeMessage_cases (nextAnswer s) (rxRead s) with ⟨f, -, e⟩ | e <;> rw [e]
  · exact ⟨[.rx frameLen (nextAnswer s), .ev (decodeEvent f).tag f], by simp, rfl, rfl⟩
  · exact ⟨[.rx frameLen (nextAnswer s)], rfl, rfl, rfl⟩

/-- Settles O29, by what each body traces; ALIGN's bounds are in `alignAlwaysEnds`. -/
theorem transactionBounds : Obligations.TransactionBounds := by
  intro i s t hi hcfg ht
  obtain ⟨c, hc, hfree, rfl⟩ := exec_next hi ht
  cases i
  case align pa pb arg =>
    obtain ⟨u, new, hu, htrace, -, htx, -, -, -, hrx, -⟩ := alignAlwaysEnds s pa pb arg hfree hcfg
    cases ht.symm.trans hu
    exact ⟨new, htrace, htx, hrx⟩
  case rstclk pa pb arg =>
    obtain ⟨rs, htrace, hlen, hzero⟩ := rstclkBody_trace arg (issue c s)
    exact ⟨_, htrace, by simp, by rw [rxCount_cons_tx, rxCount_rxTrace]; exact hlen, fun h => by simp [hzero h]⟩
  case setp pa pb arg => exact ⟨[.tx (encSetPorts pa pb).bytes], rfl, rfl, rfl⟩
  case setpb pa pb arg => exact ⟨[.tx (encSetPortB pb).bytes], rfl, rfl, rfl⟩
  case sched pa pb arg => exact ⟨[.tx (encSchedule pa arg).bytes], rfl, rfl, rfl⟩
  case rdmsg => exact rdmsgBody_trace (issue c s)
  case reservedOp0 | reservedOp1 | reservedOp2 | reservedOp3 | reservedOp4 | reservedOp5 | reservedOp6 =>
    exact ⟨[], (List.append_nil _).symm, rfl⟩
  all_goals cases hi

end Sys2Proof.Machine
end

section
/-!
SUPPORT. The frame rows (R201), and the step table (R210) row by row: what the sequencer's step is in each phase, what
ends a wait, what the latch has the sequencer write, and the statements on the rows and on progress.
-/

namespace Sys2Proof.Machine

variable {s : State} {c : Command} {i : Instr} {limit : Nat}

/-! ### The frame rows -/

/-- Settles O35: an outbound row is `exec_outbound`, an inbound row `exec_inbound`. -/
theorem frameRowsLeaveTheRest : Obligations.FrameRowsLeaveTheRest := by
  intro i s t hport ht
  cases hp : i.port
  case host => exact absurd hp hport
  case tx =>
    rw [exec_outbound hp] at ht
    cases ht
    exact ⟨rfl, rfl, rfl, rfl, rfl, rfl, rfl, rfl, rfl, rfl, rfl, rfl, rfl, rfl, fun _ => ⟨rfl, rfl⟩, nofun⟩
  case rx =>
    obtain ⟨f, hf⟩ := exists_frame?_of_inbound hp
    rw [exec_inbound hp hf] at ht
    cases ht
    exact ⟨rfl, rfl, rfl, rfl, rfl, rfl, rfl, rfl, rfl, rfl, rfl, rfl, rfl, rfl, nofun, fun _ => rfl⟩

/-! ### The sequencer's step, phase by phase -/

theorem step_idle (hhost : s.host = []) (hp : s.phase = .idle) : step s = .next s := by
  rw [step_nil hhost]; simp only [sequence, hp]

theorem step_alignTx (hhost : s.host = []) (hp : s.phase = .alignTx) :
    step s = .next { armWait probeReply (countAttempt (txWrite probeBytes s)) with phase := .alignRx } := by
  rw [step_nil hhost, ← alignTxStep_eq]; simp only [sequence, hp]

theorem step_alignRx (hhost : s.host = []) (hp : s.phase = .alignRx) : step s = .next (alignRxStep s) := by
  rw [step_nil hhost]; simp only [sequence, hp]

theorem cmdTxStep_of_latchFrame (hi : latchFrame s.cmd = some i) :
    cmdTxStep s = .next (afterCommandWrite (txWrite (encode i) s)) := by
  rw [cmdTxStep, hi]
  simp only [exec_outbound (port_latchFrame hi), onNext]

theorem step_cmdTx (hhost : s.host = []) (hp : s.phase = .cmdTx) (hi : latchFrame s.cmd = some i) :
    step s = .next (afterCommandWrite (txWrite (encode i) s)) := by
  rw [step_nil hhost, ← cmdTxStep_of_latchFrame hi]; simp only [sequence, hp]

theorem step_ackRx (hhost : s.host = []) (hp : s.phase = .ackRx) : step s = .next (ackRxStep s) := by
  rw [step_nil hhost]; simp only [sequence, hp]

theorem step_msgRx (hhost : s.host = []) (hp : s.phase = .msgRx) : step s = msgRxStep s := by
  rw [step_nil hhost]; simp only [sequence, hp]

/-! ### The turns of a wait that are misses (R203) -/

theorem turn_missed_below (hmiss : Miss s.expect (nextAnswer s)) (hbelow : s.cnt.toNat + 1 < limit)
    (hlimit : limit ≤ 31) : turnVerdict limit s = none ∧ waitTurn s = countRead (rxRead s) := by
  obtain ⟨hv, hturn⟩ := turn_missed limit hmiss
  exact ⟨by rw [hv, cnt_add_one_toNat (by omega), if_neg hbelow.ne], hturn⟩

theorem turn_missed_last (hmiss : Miss s.expect (nextAnswer s)) (hlast : s.cnt.toNat + 1 = limit)
    (hlimit : limit ≤ 31) : turnVerdict limit s = some .exhausted ∧ waitTurn s = countRead (rxRead s) := by
  obtain ⟨hv, hturn⟩ := turn_missed limit hmiss
  exact ⟨by rw [hv, cnt_add_one_toNat (by omega), if_pos hlast], hturn⟩

/-! ### What the result of a wait leads to -/

/-- What the result of an attempt leads to: the report, or the next attempt (S3, S5 to S8). -/
def endAttempt : WaitResult × State → State
  | (.matched, t) => alignSuccess t
  | (_, t) => if t.att.toNat = maxAlignAttempts then alignFailure t else { t with phase := .alignTx }

theorem endAttempt_of_failed {r : WaitResult × State} (h : r.1 ≠ .matched) :
    endAttempt r = if r.2.att.toNat = maxAlignAttempts then alignFailure r.2 else { r.2 with phase := .alignTx } := by
  obtain ⟨w, t⟩ := r
  cases w
  case matched => exact absurd rfl h
  case empty | exhausted => rfl

theorem alignRxStep_of_goes_on (h : turnVerdict s.cfg.alignWaitFrames s = none) : alignRxStep s = waitTurn s := by
  rw [alignRxStep, h]

theorem alignRxStep_of_ends {w : WaitResult} (h : turnVerdict s.cfg.alignWaitFrames s = some w) :
    alignRxStep s = endAttempt (w, waitTurn s) := by
  rw [alignRxStep, h]
  cases w
  case matched => rfl
  case empty | exhausted => simp only [endAttempt, waitTurn_att]

theorem ackRxStep_of_goes_on (h : turnVerdict maxWaitFrames s = none) : ackRxStep s = waitTurn s := by
  rw [ackRxStep, h]

theorem ackRxStep_of_ends {w : WaitResult} (h : turnVerdict maxWaitFrames s = some w) :
    ackRxStep s = reportAck (w, waitTurn s) := by
  rw [ackRxStep, h]

/-! ### What the latch has the sequencer write (R242 to R245) -/

/-- The masks of the encoders keep the five bits of Port A the latch's frame is made of (R102). -/
theorem low5_setWidth_masked (a : Byte) : (low5 a).setWidth 8 &&& 0x1F = a &&& 0x1F := by
  revert a; decide

theorem encSetPorts_low5 (a b : Byte) : encSetPorts ((low5 a).setWidth 8) b = encSetPorts a b := by
  rw [encSetPorts, low5_setWidth_masked, encSetPorts]

theorem encSchedule_low5 (a : Byte) (at_ : Tick) : encSchedule ((low5 a).setWidth 8) at_ = encSchedule a at_ := by
  rw [encSchedule, low5_setWidth_masked, encSchedule]

/-- The frames the latch stands for, by the operation code. -/
inductive LatchWrites (c : Command) : Frame → Prop
  | reset : c.op = 0x02 → LatchWrites c (encReset c.arg)
  | setports : c.op = 0x03 → LatchWrites c (encSetPorts c.pa c.pb)
  | setportb : c.op = 0x04 → LatchWrites c (encSetPortB c.pb)
  | schedule : c.op = 0x05 → LatchWrites c (encSchedule c.pa c.arg)

theorem LatchWrites.latchFrame {f : Frame} (h : LatchWrites c f) :
    ∃ i, latchFrame c = some i ∧ encode i = f.bytes := by
  cases h with
  | reset hop => exact ⟨.reset c.arg, by simp [Machine.latchFrame, hop], rfl⟩
  | setports hop => exact ⟨.setports (low5 c.pa) c.pb, by simp [Machine.latchFrame, hop],
      congrArg Frame.bytes (encSetPorts_low5 _ _)⟩
  | setportb hop => exact ⟨.setportb c.pb, by simp [Machine.latchFrame, hop], rfl⟩
  | schedule hop => exact ⟨.schedule (low5 c.pa) c.arg, by simp [Machine.latchFrame, hop],
      congrArg Frame.bytes (encSchedule_low5 _ _)⟩

theorem step_cmdTx_writes {f : Frame} (hhost : s.host = []) (hp : s.phase = .cmdTx) (hf : LatchWrites s.cmd f) :
    step s = .next (afterCommandWrite (txWrite f.bytes s)) := by
  obtain ⟨i, hi, he⟩ := hf.latchFrame
  rw [step_cmdTx hhost hp hi, he]

theorem afterCommandWrite_of_awaits (h : awaitsAck s.cmd = true) :
    afterCommandWrite s = { armWait (encReset s.cmd.arg) s with phase := .ackRx } := if_pos h

theorem afterCommandWrite_of_not_awaits (h : ¬ awaitsAck s.cmd = true) :
    afterCommandWrite s = report true .none s := if_neg h

/-! ### The rows -/

/-- Settles O37: the bytes of a frame decode to the row the step runs. -/
theorem stepRunsTheInboundFrame : Obligations.StepRunsTheInboundFrame := by
  intro s f i hhost hp hf hi
  rw [decode_rx_bytes] at hi
  cases hi
  rw [step_msgRx hhost hp, msgRxStep, hf]

/-- Settles O38: S2 is `step_alignTx`; S10 and S11 are the write of the latch's frame and what follows it. -/
theorem stepWritesTheLatchedFrame : Obligations.StepWritesTheLatchedFrame := by
  refine fun s hhost => ⟨step_alignTx hhost, fun hp => ?_⟩
  have reports {f : Frame} (hf : LatchWrites s.cmd f) (hack : ¬ awaitsAck s.cmd = true) :
      step s = .next (report true .none (txWrite f.bytes s)) := by
    rw [step_cmdTx_writes hhost hp hf, afterCommandWrite_of_not_awaits (s := txWrite f.bytes s) hack]
  refine ⟨fun hop harg => ?_, fun hop harg => ?_, fun hop => ?_, fun hop => ?_, fun hop => ?_⟩
  · rw [step_cmdTx_writes hhost hp (.reset hop), afterCommandWrite_of_awaits
      (s := txWrite (encReset s.cmd.arg).bytes s) (awaitsAck_iff.2 ⟨hop, harg⟩)]
    rfl
  · rw [← harg]
    exact reports (.reset hop) (by simp [awaitsAck_iff, harg])
  · exact reports (.setports hop) (by simp [awaitsAck_iff, hop])
  · exact reports (.setportb hop) (by simp [awaitsAck_iff, hop])
  · exact reports (.schedule hop) (by simp [awaitsAck_iff, hop])

/-- Settles O40: each row is the turn of the wait it names (`turn_matched`, `turn_empty`, `turn_missed_below`,
`turn_missed_last`) and, where the turn ends the wait, `endAttempt`. -/
theorem stepReadsInAnAlignmentAttempt : Obligations.StepReadsInAnAlignmentAttempt := by
  intro s hhost hp
  have ends {w : WaitResult} (hv : turnVerdict s.cfg.alignWaitFrames s = some w) :
      step s = .next (endAttempt (w, waitTurn s)) := by
    rw [step_alignRx hhost hp, alignRxStep_of_ends hv]
  have retries {w : WaitResult} (hv : turnVerdict s.cfg.alignWaitFrames s = some w) (hw : w ≠ .matched)
      (hatt : s.att.toNat < 6) : step s = .next { waitTurn s with phase := .alignTx } := by
    rw [ends hv, endAttempt_of_failed hw, if_neg (by rw [waitTurn_att]; exact hatt.ne)]
  have fails {w : WaitResult} (hv : turnVerdict s.cfg.alignWaitFrames s = some w) (hw : w ≠ .matched)
      (hatt : s.att = 6) : step s = .next (alignFailure (waitTurn s)) := by
    rw [ends hv, endAttempt_of_failed hw, if_pos (by rw [waitTurn_att, hatt]; rfl)]
  refine ⟨fun hr => ?_, fun hr hatt => ?_, fun hr hatt => ?_, fun hr hcnt hmax => ?_, fun hr hcnt hmax hatt => ?_,
    fun hr hcnt hmax hatt => ?_⟩
  · obtain ⟨hv, hturn⟩ := turn_matched s.cfg.alignWaitFrames hr
    rw [ends hv, hturn]; rfl
  · obtain ⟨hv, hturn⟩ := turn_empty s.cfg.alignWaitFrames hr
    rw [retries hv nofun hatt, hturn]; rfl
  · obtain ⟨hv, hturn⟩ := turn_empty s.cfg.alignWaitFrames hr
    rw [fails hv nofun hatt, hturn]; rfl
  · obtain ⟨hv, hturn⟩ := turn_missed_below hr hcnt hmax
    rw [step_alignRx hhost hp, alignRxStep_of_goes_on hv, hturn]; rfl
  · obtain ⟨hv, hturn⟩ := turn_missed_last hr hcnt hmax
    rw [retries hv nofun hatt, hturn]; rfl
  · obtain ⟨hv, hturn⟩ := turn_missed_last hr hcnt hmax
    rw [fails hv nofun hatt, hturn]; rfl

/-- Settles O41: each row is the turn of the wait it names and, where the turn ends the wait, `reportAck`. -/
theorem stepReadsInTheAcknowledgementWait : Obligations.StepReadsInTheAcknowledgementWait := by
  intro s hhost hp
  have ends {w : WaitResult} (hv : turnVerdict maxWaitFrames s = some w) :
      step s = .next (reportAck (w, waitTurn s)) := by
    rw [step_ackRx hhost hp, ackRxStep_of_ends hv]
  refine ⟨fun hr => ?_, fun hr => ?_, fun hr hcnt => ?_, fun hr hcnt => ?_⟩
  · obtain ⟨hv, hturn⟩ := turn_matched maxWaitFrames hr
    rw [ends hv, hturn]; rfl
  · obtain ⟨hv, hturn⟩ := turn_empty maxWaitFrames hr
    rw [ends hv, hturn]; rfl
  · obtain ⟨hv, hturn⟩ := turn_missed_below (limit := maxWaitFrames) hr hcnt (by decide)
    rw [step_ackRx hhost hp, ackRxStep_of_goes_on hv, hturn]; rfl
  · obtain ⟨hv, hturn⟩ := turn_missed_last (limit := maxWaitFrames) hr hcnt (by decide)
    rw [ends hv, hturn]; rfl

/-- Settles O42: the step is `rdmsgBody` (`msgRxStep_eq`), decided by the answer. -/
theorem stepReadsTheMessage : Obligations.StepReadsTheMessage := by
  intro s hhost hp
  rw [step_msgRx hhost hp, msgRxStep_eq, rdmsgBody]
  refine ⟨fun f hf => ?_, fun hnone => ?_⟩
  · rw [hf, takeMessage]
    simp [report, setReported, deliver, rxRead, hf, frameLen]
  · rcases takeMessage_cases (nextAnswer s) (rxRead s) with ⟨f, hf, -⟩ | e
    · exact absurd hf (hnone f)
    · rw [e]; rfl

/-! ### The issuing rows -/

theorem step_write_free {w : BitVec 56} {rest : List HostReq} (hhost : s.host = .write 0 w :: rest)
    (hfree : s.busy = false) : step s = .next (issueStep (Command.ofBits w) { s with host := rest }) := by
  rw [step_write hhost, hostWrite, if_pos rfl, if_neg (by simp [hfree])]

/-- A code that writes a frame is none of the others (R101, R111). -/
theorem writing_op_excludes (op : Byte) :
    op ∈ [(0x02 : Byte), 0x03, 0x04, 0x05] → op ≠ 0x01 ∧ ¬ reservedOp op = true ∧ op ≠ 0x06 := by
  revert op; decide

theorem exists_latchWrites (h : (latchFrame c).isSome = true) : ∃ f, LatchWrites c f := by
  unfold latchFrame at h
  split_ifs at h with h2 h3 h4 h5
  · exact ⟨_, .reset h2⟩
  · exact ⟨_, .setports h3⟩
  · exact ⟨_, .setportb h4⟩
  · exact ⟨_, .schedule h5⟩
  · cases h

/-- Settles O39: the branches of `issueStep`, and `step_idle`. -/
theorem stepIssuesTheWrittenCommand : Obligations.StepIssuesTheWrittenCommand := by
  refine ⟨fun s w rest hhost hfree => ?_, fun s => step_idle⟩
  rw [step_write_free hhost hfree]
  refine ⟨fun hop => ?_, fun hop => ?_, fun hop => ?_, fun hop => ?_⟩
  · rw [issueStep, if_pos hop]; rfl
  · obtain ⟨halign, hreserved, hrdmsg⟩ := writing_op_excludes _ hop
    rw [issueStep, if_neg halign, if_neg hreserved, if_neg hrdmsg]; rfl
  · rw [issueStep, hop]; rfl
  · have hr : reservedOp (Command.ofBits w).op = true := by simpa [reservedOp] using hop
    rw [issueStep, if_neg ((op_defined_or_reserved _).1 hr).1, if_pos hr]; rfl

/-! ### The machine is never stuck -/

/-- The sequencer has a next state: in CMD_TX the phase says that the latch writes a frame. -/
theorem exists_sequence_next (h : PhaseInv s) : ∃ t, sequence s = .next t := by
  unfold sequence
  unfold PhaseInv at h
  cases hp : s.phase <;> rw [hp] at h
  case idle | alignTx | alignRx | ackRx => exact ⟨_, rfl⟩
  case cmdTx =>
    obtain ⟨i, hi⟩ := Option.isSome_iff_exists.1 h
    exact ⟨_, cmdTxStep_of_latchFrame hi⟩
  case msgRx => exact ⟨_, msgRxStep_eq s⟩

/-- CR1 to CR4 can be read. -/
theorem exists_readCr_ok {cr : Nat} (hlow : 1 ≤ cr) (hhigh : cr ≤ 4) (s : State) : ∃ v, readCr cr s = .ok v := by
  match cr, hlow, hhigh with
  | 1, _, _ | 2, _, _ | 3, _, _ | 4, _, _ => exact ⟨_, rfl⟩

/-- Settles O48, by the next request at the HOST port: the contract rules out the refusals of `hostWrite` and
`hostRead`, the invariant the sequencer's (`exists_sequence_next`). -/
theorem noStuckStateUnderTheContract : Obligations.NoStuckStateUnderTheContract := by
  intro s h hkeeps
  cases hh : s.host with
  | nil => exact step_nil hh ▸ exists_sequence_next h.phase_fits
  | cons q rest =>
    have hq := hkeeps q (by rw [hh]; rfl)
    cases q with
    | call w =>
      rw [step_call hh, hostCall]
      split_ifs with hb
      · exact exists_sequence_next h.phase_fits
      · exact ⟨_, (exec_decodeHostWord w _).trans (operate_free (by simpa using hb))⟩
    | write cr w =>
      obtain ⟨rfl, hfree⟩ := hq
      exact ⟨_, step_write_free hh hfree⟩
    | read cr =>
      obtain ⟨hlow, hhigh⟩ := hq
      obtain ⟨v, hv⟩ := exists_readCr_ok hlow hhigh { s with host := rest }
      exact ⟨_, step_read_delivers hh hv⟩
    | reset => exact ⟨_, step_reset hh⟩
    | pass =>
      rw [step_pass hh]
      exact exists_sequence_next (h.hostPort rest s.hostOut).phase_fits

end Sys2Proof.Machine
end

section
/-!
SUPPORT. The single steps against the operations (R210, R211, R240): a run that ends and stays, the wait and the loop of
ALIGN as single steps, and the statement that issue and steps end where the operation does.
-/

namespace Sys2Proof.Machine

variable {s t u : State} {c : Command} {limit m n fuel : Nat} {finish : WaitResult × State → State} {p : Phase}

/-! ### Runs that end -/

theorem run_succ (hs : step s = .next u) (k : Nat) : Sys2Proof.core.run (k + 1) s = Sys2Proof.core.run k u := by
  have hcore : Sys2Proof.core.step s = .next u := hs
  simp only [Host.Core.run, hcore]

/-- After `n` steps or more the machine is in `t`. -/
def EndsIn (n : Nat) (s t : State) : Prop := ∀ k, n ≤ k → Sys2Proof.core.run k s = .next t

namespace EndsIn

/-- One step before the others. -/
theorem step (hs : step s = .next u) (h : EndsIn n u t) : EndsIn (n + 1) s t := by
  rintro (_ | k) hk
  · cases hk
  · rw [run_succ hs, h k (Nat.le_of_succ_le_succ hk)]

theorem mono (h : EndsIn m s t) (hmn : m ≤ n) : EndsIn n s t := fun k hk => h k (hmn.trans hk)

/-- In IDLE, with nothing at the HOST port, the machine stays (R301). -/
theorem waiting (hhost : s.host = []) (hp : s.phase = .idle) : EndsIn n s s := by
  rintro k -
  induction k with
  | zero => rfl
  | succ k ih => rw [run_succ (step_idle hhost hp), ih]

end EndsIn

/-! ### The phase an operation is in -/

/-- The state with another phase. -/
def inPhase (p : Phase) (s : State) : State := { s with phase := p }

/-- A turn of a wait does not look at the phase. -/
theorem waitTurn_inPhase (p : Phase) (s : State) : waitTurn (inPhase p s) = inPhase p (waitTurn s) :=
  (apply_ite (inPhase p) (nextAnswer s = .empty) (rxRead s) (countRead (rxRead s))).symm

/-- What ends an attempt sets the phase, whatever it was. -/
theorem endAttempt_inPhase (w : WaitResult) (p : Phase) (s : State) :
    endAttempt (w, inPhase p s) = endAttempt (w, s) := by
  cases w <;> rfl

/-- The report of an acknowledgement wait sets the phase, whatever it was. -/
theorem reportAck_inPhase (w : WaitResult) (p : Phase) (s : State) :
    reportAck (w, inPhase p s) = reportAck (w, s) := by
  cases w <;> rfl

/-- RDMSG reports, which sets the phase, whatever it was. -/
theorem rdmsgBody_inPhase (p : Phase) (s : State) : rdmsgBody (inPhase p s) = rdmsgBody s := by
  change takeMessage (nextAnswer s) (inPhase p (rxRead s)) = takeMessage (nextAnswer s) (rxRead s)
  cases nextAnswer s <;> rfl

theorem rdmsgBody_phase (s : State) : (rdmsgBody s).phase = .idle := by
  unfold rdmsgBody
  rcases takeMessage_cases (nextAnswer s) (rxRead s) with ⟨f, -, e⟩ | e <;> rw [e] <;> rfl

/-! ### A wait as single steps (R203) -/

/-- In phase `p` a step is a turn of the wait with this limit, and what ends the wait leads to `finish`. -/
def StepsWait (p : Phase) (limit : Nat) (finish : WaitResult × State → State) (cfg : Config) : Prop :=
  ∀ u : State, u.cfg = cfg → u.host = [] →
    (turnVerdict limit u = none → step (inPhase p u) = .next (inPhase p (waitTurn u))) ∧
    ∀ w, turnVerdict limit u = some w → step (inPhase p u) = .next (finish (w, waitTurn u))

theorem stepsWait_align (cfg : Config) : StepsWait .alignRx cfg.alignWaitFrames endAttempt cfg := by
  rintro u rfl hhost
  have hstep : step (inPhase .alignRx u) = .next (alignRxStep (inPhase .alignRx u)) := step_alignRx hhost rfl
  refine ⟨fun hv => ?_, fun w hv => ?_⟩
  · rw [hstep, alignRxStep_of_goes_on (s := inPhase .alignRx u) hv, waitTurn_inPhase]
  · rw [hstep, alignRxStep_of_ends (s := inPhase .alignRx u) hv, waitTurn_inPhase, endAttempt_inPhase]

theorem stepsWait_ack (cfg : Config) : StepsWait .ackRx maxWaitFrames reportAck cfg := by
  rintro u - hhost
  have hstep : step (inPhase .ackRx u) = .next (ackRxStep (inPhase .ackRx u)) := step_ackRx hhost rfl
  refine ⟨fun hv => ?_, fun w hv => ?_⟩
  · rw [hstep, ackRxStep_of_goes_on (s := inPhase .ackRx u) hv, waitTurn_inPhase]
  · rw [hstep, ackRxStep_of_ends (s := inPhase .ackRx u) hv, waitTurn_inPhase, reportAck_inPhase]

/-- The turns of the wait's loop are single steps, at most as many as its fuel. -/
theorem endsIn_of_waitLoop (hwait : StepsWait p limit finish s.cfg) (hhost : s.host = []) (hlimit : limit ≤ 31)
    (hfuel : s.cnt.toNat + (fuel + 1) = limit) (hend : EndsIn n (finish (waitLoop limit (fuel + 1) s)) t) :
    EndsIn (n + (fuel + 1)) (inPhase p s) t := by
  have hcount : (s.cnt + 1).toNat = s.cnt.toNat + 1 := cnt_add_one_toNat (by omega)
  induction fuel generalizing s with
  | zero =>
    cases hv : turnVerdict limit s with
    | none =>
      obtain ⟨-, hne, -⟩ := turn_goes_on hv
      exact absurd (hcount.trans hfuel) hne
    | some w =>
      rw [waitLoop_ends hv] at hend
      exact .step ((hwait s rfl hhost).2 w hv) hend
  | succ fuel ih =>
    cases hv : turnVerdict limit s with
    | none =>
      obtain ⟨hcnt, -, -⟩ := turn_goes_on hv
      rw [waitLoop_goes_on hv] at hend
      have hnext : (waitTurn s).cnt.toNat = s.cnt.toNat + 1 := by rw [hcnt, hcount]
      exact .step ((hwait s rfl hhost).1 hv) (ih (s := waitTurn s) (by rwa [waitTurn_cfg]) (by rwa [waitTurn_host])
        (by omega) hend (cnt_add_one_toNat (by omega)))
    | some w =>
      rw [waitLoop_ends hv] at hend
      exact .step ((hwait s rfl hhost).2 w hv) (hend.mono (Nat.le_add_right _ _))

/-- A whole wait, from its start: at most as many single steps as its limit. -/
theorem endsIn_of_waitReply {expect : Frame} (hwait : StepsWait p limit finish s.cfg) (hhost : s.host = [])
    (hpos : 1 ≤ limit) (hlimit : limit ≤ 31) (hend : EndsIn n (finish (waitReply expect limit s)) t) :
    EndsIn (n + limit) (inPhase p (armWait expect s)) t := by
  obtain ⟨fuel, rfl⟩ := Nat.exists_eq_add_of_le' hpos
  exact endsIn_of_waitLoop (s := armWait expect s) hwait hhost hlimit (Nat.zero_add _) hend

/-! ### ALIGN as single steps (R204) -/

theorem alignAttempt_leaves (s : State) : (alignAttempt s).2.cfg = s.cfg ∧ (alignAttempt s).2.host = s.host := by
  obtain ⟨rs, cnt, h⟩ := alignAttempt_frame s
  rw [h]
  exact ⟨rfl, rfl⟩

/-- An attempt is single steps, a write and at most as many reads as its wait's limit; the loop ends with it, or goes
on after it. -/
theorem endsIn_attempt (hcfg : s.cfg.wf) (hhost : s.host = [])
    (hrest : (alignAttempt s).2.att.toNat ≠ maxAlignAttempts →
      EndsIn n (inPhase .alignTx (alignAttempt s).2) (alignLoop fuel (alignAttempt s).2)) :
    EndsIn (n + s.cfg.alignWaitFrames + 1) (inPhase .alignTx s) (alignLoop (fuel + 1) s) := by
  obtain ⟨-, hpos, hmax⟩ := id hcfg
  suffices hend : EndsIn n (endAttempt (alignAttempt s)) (alignLoop (fuel + 1) s) from
    .step (step_alignTx hhost rfl) (endsIn_of_waitReply (s := countAttempt (txWrite probeBytes s))
      (stepsWait_align s.cfg) hhost hpos hmax hend)
  have hnext := (alignAttempt_leaves s).2.trans hhost
  cases hr : alignAttempt s with | mk w u => ?_
  rw [hr] at hrest hnext
  by_cases hw : w = .matched
  · subst hw
    rw [alignLoop_succeeds hr]
    exact .waiting hnext rfl
  · rw [alignLoop_retries hr hw, endAttempt_of_failed hw]
    split_ifs with ha
    · exact .waiting hnext rfl
    · exact hrest ha

/-- The loop of ALIGN is single steps, an attempt after the other. -/
theorem endsIn_alignLoop (hcfg : s.cfg.wf) (hhost : s.host = []) (hatt : s.att.toNat + (fuel + 1) = maxAlignAttempts) :
    EndsIn ((fuel + 1) * (1 + s.cfg.alignWaitFrames)) (inPhase .alignTx s) (alignLoop (fuel + 1) s) := by
  have hcount := alignAttempt_att (s := s) (by omega)
  induction fuel generalizing s with
  | zero =>
    refine (endsIn_attempt (n := 0) hcfg hhost fun hne => absurd (hcount.trans hatt) hne).mono ?_
    omega
  | succ fuel ih =>
    obtain ⟨hsame, hnext⟩ := alignAttempt_leaves s
    refine (endsIn_attempt hcfg hhost fun _ => ih (by rwa [hsame]) (hnext.trans hhost) (by omega)
      (alignAttempt_att (by omega))).mono ?_
    rw [hsame, Nat.succ_mul (fuel + 1)]
    omega

/-! ### The other operations as single steps (R242 to R247) -/

/-- The report of an acknowledgement wait is the end of the run. -/
theorem endsIn_reportAck (hhost : s.host = []) (expect : Frame) :
    EndsIn n (reportAck (waitReply expect limit s)) (reportAck (waitReply expect limit s)) := by
  obtain ⟨o, e, hr, -⟩ := reportAck_reports (waitReply expect limit s)
  obtain ⟨rs, cnt, hw, -⟩ := waitReply_frame expect limit s
  rw [hr, hw]
  exact .waiting hhost rfl

/-- What follows the write of a frame is the report, or the single steps of the acknowledgement wait (S10 to S15). -/
theorem endsIn_afterCommandWrite (hhost : s.host = []) (p : Phase) :
    EndsIn maxWaitFrames (afterCommandWrite (inPhase p s))
      (if awaitsAck s.cmd = true then reportAck (waitReply (encReset s.cmd.arg) maxWaitFrames s)
        else report true .none s) := by
  split_ifs with hack
  · rw [afterCommandWrite_of_awaits (s := inPhase p s) hack]
    exact (endsIn_of_waitReply (stepsWait_ack s.cfg) hhost (by decide) (by decide) (endsIn_reportAck hhost _)).mono
      (Nat.zero_add _).le
  · rw [afterCommandWrite_of_not_awaits (s := inPhase p s) hack]
    exact .waiting hhost rfl

/-- An operation that writes a frame is that write, and the acknowledgement wait if one is due (R242 to R245). -/
theorem hostBody_of_latchWrites {f : Frame} (hf : LatchWrites c f) (s : State) :
    hostBody (decodeCommand c) s =
      if awaitsAck c = true then reportAck (waitReply (encReset c.arg) maxWaitFrames (txWrite f.bytes s))
      else report true .none (txWrite f.bytes s) := by
  cases hf with
  | reset hop =>
    by_cases harg : c.arg = 0 <;> simp [decodeCommand, hop, hostBody, rstclkBody, awaitsAck, harg]
  | setports hop | setportb hop | schedule hop => simp [decodeCommand, hop, hostBody, sendBody, awaitsAck]

theorem hostBody_of_align (hop : c.op = 0x01) : hostBody (decodeCommand c) = alignProcedure := by
  simp [decodeCommand, hop, hostBody]

theorem hostBody_of_rdmsg (hop : c.op = 0x06) : hostBody (decodeCommand c) = rdmsgBody := by
  simp [decodeCommand, hop, hostBody]

theorem hostBody_of_reserved (hop : reservedOp c.op = true) : hostBody (decodeCommand c) = illegalBody := by
  obtain ⟨h1, h2, h3, h4, h5, h6⟩ := (op_defined_or_reserved _).1 hop
  rw [decodeCommand, if_neg h1, if_neg h2, if_neg h3, if_neg h4, if_neg h5, if_neg h6]
  iterate 6 refine ite_property (P := (hostBody · = _)) (fun _ => rfl) fun _ => ?_
  rfl

/-- After its issue an operation is single steps, at most as many as R211 allows. -/
theorem endsIn_issueStep (hcfg : s.cfg.wf) (hhost : s.host = []) (c : Command) :
    EndsIn (max 21 (maxAlignAttempts * (1 + s.cfg.alignWaitFrames))) (issueStep c s)
      (hostBody (decodeCommand c) (issue c s)) := by
  rcases issueStep_cases c s with ⟨hop, e⟩ | ⟨hop, e⟩ | ⟨hop, e⟩ | ⟨hop, e⟩ <;> rw [e]
  · rw [hostBody_of_align hop]
    exact (endsIn_alignLoop (s := startAlign (issue c s)) hcfg hhost rfl).mono (le_max_right _ _)
  · rw [hostBody_of_reserved hop]
    exact .waiting hhost rfl
  · have hread : step (inPhase .msgRx (issue c s)) = .next (rdmsgBody (issue c s)) := by
      rw [step_msgRx (s := inPhase .msgRx (issue c s)) hhost rfl, msgRxStep_eq, rdmsgBody_inPhase]
    obtain ⟨-, hsame, -⟩ := rdmsgBody_frame (issue c s)
    rw [hostBody_of_rdmsg hop]
    exact (EndsIn.step (n := 0) hread (.waiting (hsame.trans hhost) (rdmsgBody_phase _))).mono (by omega)
  · obtain ⟨f, hf⟩ := exists_latchWrites hop
    have hwrite := step_cmdTx_writes (s := inPhase .cmdTx (issue c s)) hhost rfl hf
    rw [hostBody_of_latchWrites hf]
    exact (EndsIn.step hwrite (endsIn_afterCommandWrite (s := txWrite f.bytes (issue c s)) hhost .cmdTx)).mono
      (le_max_left _ _)

/-- Settles O49: the first step is the issue, the others are `endsIn_issueStep`. -/
theorem singleStepsRefineTheOperation : Obligations.SingleStepsRefineTheOperation := by
  intro s w n hfree hcfg hhost hn
  rw [exec_decodeHostWord, operate_free hfree]
  have hissue : step { s with host := [.write 0 w] } = .next (issueStep (Command.ofBits w) s) := by
    rw [step_write_free (s := { s with host := [.write 0 w] }) rfl hfree, ← hhost]
  exact (EndsIn.step hissue (endsIn_issueStep hcfg hhost _)) n (by rwa [Nat.add_comm])

end Sys2Proof.Machine
end

section
/-!
SUPPORT. The host operations as whole next states (R240 to R247): refused while BUSY is set, else the body of the
operation run from its issue; and the called word that the step runs.
-/

namespace Sys2Proof.Machine

variable {s : State} {i : Instr} {c : Command} {arg : Tick}

/-! ### A host row, busy or free -/

theorem exec_busy (hc : i.command? = some c) (hbusy : s.busy = true) : exec i s = .refused .commandWhileBusy := by
  rw [exec_eq_operate hc, operate_busy hbusy]

theorem exec_free (hc : i.command? = some c) (hfree : s.busy = false) :
    exec i s = .next (hostBody i (issue c s)) := by
  rw [exec_eq_operate hc, operate_free hfree]

/-- Settles O17: every host row stands for a command word, and is refused as its operation is. -/
theorem hostOperationsAreRefusedWhileBusy : Obligations.HostOperationsAreRefusedWhileBusy := by
  intro i s hi hbusy
  obtain ⟨c, hc⟩ := exists_command?_of_isHostOp hi
  exact exec_busy hc hbusy

/-! ### The operations that await nothing (R242 to R245) -/

/-- RSTCLK without a value writes its frame and reports, as the operations that await nothing do. -/
theorem rstclkBody_zero : rstclkBody 0 = sendBody (encReset 0) := funext fun _ => if_pos rfl

/-- Settles O18: the bodies are `sendBody`, one write and the report of success. -/
theorem sendOperationsCompleteAtOnce : Obligations.SendOperationsCompleteAtOnce := by
  refine fun s pa pb arg hfree => ⟨exec_free rfl hfree, exec_free rfl hfree, exec_free rfl hfree, ?_⟩
  rw [exec_free rfl hfree, hostBody, rstclkBody_zero]
  rfl

/-! ### The acknowledgement wait of RSTCLK (R242) -/

/-- RSTCLK with a value, once its wait was answered with `rs`: TX and TRACE show the frame and then the reads, and the
result of the wait is reported. -/
theorem exec_rstclk_of_waitReply {pa pb : Byte} {w : WaitResult} {rs : List RxAnswer} (harg : arg ≠ 0)
    (hfree : s.busy = false)
    (hwait : waitReply (encReset arg) maxWaitFrames (txWrite (encReset arg).bytes (issue ⟨0x02, pa, pb, arg⟩ s)) =
      (w, waited (encReset arg) rs (txWrite (encReset arg).bytes (issue ⟨0x02, pa, pb, arg⟩ s)))) :
    exec (.rstclk pa pb arg) s = .next (reportAck (w, { waited (encReset arg) rs (issue ⟨0x02, pa, pb, arg⟩ s) with
      tx := s.tx ++ (encReset arg).bytes, trace := s.trace ++ .tx (encReset arg).bytes :: rxTrace rs })) := by
  rw [exec_free rfl hfree, hostBody, rstclkBody, if_neg harg, hwait]
  simp [waited, afterReads, txWrite]

/-- Settles O19: the form of the answers decides the wait (`waitReply_of_matchedWait`, `waitReply_of_emptyWait`,
`waitReply_of_exhaustedWait`), and one of the three always applies (`exists_waitAnswers`). -/
theorem rstclkReportsTheResultOfItsWait : Obligations.RstclkReportsTheResultOfItsWait := by
  intro s pa pb arg hfree harg
  refine ⟨fun rs hup => ⟨fun h => ?_, fun h => ?_, fun h => ?_⟩, exists_waitAnswers _ _ s⟩
  · exact exec_rstclk_of_waitReply harg hfree (waitReply_of_matchedWait h (by decide) hup)
  · exact exec_rstclk_of_waitReply harg hfree (waitReply_of_emptyWait h (by decide) hup)
  · exact exec_rstclk_of_waitReply harg hfree (waitReply_of_exhaustedWait h (by decide) (by decide) hup)

/-! ### RDMSG and the reserved codes (R246, R247) -/

/-- Settles O24, by the answer to the one read: `exec_rdmsg_of_full`, `exec_rdmsg_of_not_full`. -/
theorem rdmsgReturnsTheNextFrameOrNothing : Obligations.RdmsgReturnsTheNextFrameOrNothing := by
  refine fun s pa pb arg hfree => ⟨fun f hf => ?_, fun hnone => exec_rdmsg_of_not_full hfree hnone⟩
  have hissue : nextAnswer (issue ⟨0x06, pa, pb, arg⟩ s) = .full f := hf
  rw [exec_rdmsg_of_full hfree hf, rxRead, hissue]
  simp [report, setReported, deliver, issue, setIssued, frameLen]

/-- Settles O26: the body of each row is `illegalBody`, the report alone. -/
theorem reservedRowsComplete : Obligations.ReservedRowsComplete := fun _ _ _ _ _ hfree =>
  ⟨exec_free rfl hfree, exec_free rfl hfree, exec_free rfl hfree, exec_free rfl hfree, exec_free rfl hfree,
    exec_free rfl hfree, exec_free rfl hfree⟩

/-- Settles O25: the word decodes to a row whose body is `illegalBody`, and BUSY and PHASE are as its report leaves
them. -/
theorem reservedCodesReportIllegalOp : Obligations.ReservedCodesReportIllegalOp := by
  intro s w hfree hidle hop
  have hreserved : reservedOp (Command.ofBits w).op = true := by
    rw [reservedOp, Bool.or_eq_true, decide_eq_true_iff, decide_eq_true_iff]
    exact hop
  rw [exec_decodeHostWord, operate_free hfree, hostBody_of_reserved hreserved]
  simp [illegalBody, report, setReported, issue, setIssued, hfree, hidle]

/-! ### The called word -/

/-- The bytes of a table word of 56 bits are those of its command (R100, R101). -/
theorem wordBytes_toNat (w : BitVec 56) : wordBytes 7 w.toNat = (Command.ofBits w).bytes := by
  simp (disch := decide) only [Command.bytes, Command.ofBits, be32, BitVec.extractLsb'_extractLsb'_of_le]
  rfl

theorem decodeTableWord_toNat (w : BitVec 56) : decodeTableWord 56 w.toNat = some (decodeHostWord w) := by
  have read : decodeTableWord 56 w.toNat = (decode .host (wordBytes 7 w.toNat)).toOption := rfl
  rw [read, wordBytes_toNat, decode_host_bytes]
  rfl

/-- Settles O36: the row read from the table word is `decodeHostWord w`, which a call runs unless BUSY is set. -/
theorem stepRunsTheCalledWord : Obligations.StepRunsTheCalledWord := by
  intro s w rest i hhost hi
  cases (decodeTableWord_toNat w).symm.trans hi
  rw [step_call hhost, hostCall]
  exact ⟨fun hfree => if_neg (by simp [hfree]), fun hbusy => if_pos hbusy⟩

end Sys2Proof.Machine
end

section
/-!
SUPPORT. Noninterference of the host operations (R248, R214): two runs from states that agree on the configuration and
on the answers to come write, read and report the same.
-/

namespace Sys2Proof.Machine

variable {s s' t t' : State}

/-- From the first pair of states to the second the same was written and traced, and the second pair agrees on the
report and on the answers still to come. -/
structure SameEffects (s s' t t' : State) : Prop where
  ok : t.ok = t'.ok
  err : t.err = t'.err
  rx : t.rx = t'.rx
  streams : ∃ out new, t.tx = s.tx ++ out ∧ t'.tx = s'.tx ++ out ∧ t.trace = s.trace ++ new ∧ t'.trace = s'.trace ++ new

/-- An attempt counts itself (R28). -/
theorem alignAttempt_att_eq (s : State) : (alignAttempt s).2.att = s.att + 1 := by
  obtain ⟨rs, cnt, h⟩ := alignAttempt_frame s
  rw [h]

namespace SameEffects

/-! ### The shared operations -/

/-- What both runs add to their streams they have added since the first pair of states. -/
theorem streams_grow (h : SameEffects s s' t t') (out : List Byte) (new : List TraceEvent) :
    ∃ out' new', t.tx ++ out = s.tx ++ out' ∧ t'.tx ++ out = s'.tx ++ out' ∧
      t.trace ++ new = s.trace ++ new' ∧ t'.trace ++ new = s'.trace ++ new' := by
  obtain ⟨before, seen, htx, htx', htrace, htrace'⟩ := h.streams
  exact ⟨before ++ out, seen ++ new, by simp [htx], by simp [htx'], by simp [htrace], by simp [htrace']⟩

/-- The issue sets the flags of the report alike. -/
theorem issue (hrx : s.rx = s'.rx) (c : Command) : SameEffects s s' (issue c s) (issue c s') :=
  ⟨rfl, rfl, hrx, [], [], by simp⟩

theorem report (h : SameEffects s s' t t') (o : Bool) (e : ErrCode) :
    SameEffects s s' (report o e t) (report o e t') := ⟨rfl, rfl, h.rx, h.streams⟩

theorem txWrite (h : SameEffects s s' t t') (bs : List Byte) : SameEffects s s' (txWrite bs t) (txWrite bs t') :=
  ⟨h.ok, h.err, h.rx, h.streams_grow bs [.tx bs]⟩

theorem deliver (h : SameEffects s s' t t') (tag : Tag) (f : Frame) :
    SameEffects s s' (deliver tag f t) (deliver tag f t') :=
  ⟨h.ok, h.err, h.rx, by simpa using h.streams_grow [] [.ev tag f]⟩

theorem rxRead (h : SameEffects s s' t t') : SameEffects s s' (rxRead t) (rxRead t') :=
  ⟨h.ok, h.err, congrArg List.tail h.rx, by
    simpa [nextAnswer_congr h.rx] using h.streams_grow [] [.rx frameLen (nextAnswer t)]⟩

theorem waitTurn (h : SameEffects s s' t t') : SameEffects s s' (waitTurn t) (waitTurn t') :=
  ⟨by simpa using h.ok, by simpa using h.err, by simpa using h.rxRead.rx, by simpa using h.rxRead.streams⟩

/-! ### The wait and the alignment procedure -/

/-- A wait goes on or ends, and how it ends, by the answers, what it expects and its count alone (R203). -/
theorem turnVerdict_eq (h : SameEffects s s' t t') (hexpect : t.expect = t'.expect) (hcnt : t.cnt = t'.cnt)
    (limit : Nat) : turnVerdict limit t = turnVerdict limit t' := by
  rw [turnVerdict, turnVerdict, waitVerdict, waitVerdict, nextAnswer_congr h.rx, hexpect, countRead_cnt, countRead_cnt,
    hcnt]

theorem waitLoop (h : SameEffects s s' t t') (hexpect : t.expect = t'.expect) (hcnt : t.cnt = t'.cnt)
    (limit fuel : Nat) :
    (waitLoop limit fuel t).1 = (waitLoop limit fuel t').1 ∧
      SameEffects s s' (waitLoop limit fuel t).2 (waitLoop limit fuel t').2 := by
  induction fuel generalizing t t' with
  | zero => exact ⟨rfl, h⟩
  | succ fuel ih =>
    have hsame := h.turnVerdict_eq hexpect hcnt limit
    cases hv : turnVerdict limit t with
    | some w =>
      rw [waitLoop_ends hv, waitLoop_ends (hsame ▸ hv)]
      exact ⟨rfl, h.waitTurn⟩
    | none =>
      have hv' : turnVerdict limit t' = none := hsame ▸ hv
      obtain ⟨hcount, -, -⟩ := turn_goes_on hv
      obtain ⟨hcount', -, -⟩ := turn_goes_on hv'
      rw [waitLoop_goes_on hv, waitLoop_goes_on hv']
      exact ih h.waitTurn (by simpa using hexpect) (by rw [hcount, hcount', hcnt])

theorem waitReply (h : SameEffects s s' t t') (expect : Frame) (limit : Nat) :
    (waitReply expect limit t).1 = (waitReply expect limit t').1 ∧
      SameEffects s s' (waitReply expect limit t).2 (waitReply expect limit t').2 :=
  waitLoop (t := armWait expect t) (t' := armWait expect t') ⟨h.ok, h.err, h.rx, h.streams⟩ rfl rfl limit limit

theorem alignAttempt (h : SameEffects s s' t t') (hcfg : t.cfg = t'.cfg) :
    (alignAttempt t).1 = (alignAttempt t').1 ∧ SameEffects s s' (alignAttempt t).2 (alignAttempt t').2 := by
  obtain ⟨hok, herr, hrx, hstreams⟩ := h.txWrite probeBytes
  rw [Machine.alignAttempt, Machine.alignAttempt, hcfg]
  exact waitReply (t := countAttempt (Machine.txWrite probeBytes t))
    (t' := countAttempt (Machine.txWrite probeBytes t')) ⟨hok, herr, hrx, hstreams⟩ _ _

theorem alignLoop (h : SameEffects s s' t t') (hcfg : t.cfg = t'.cfg) (hatt : t.att = t'.att) (fuel : Nat) :
    SameEffects s s' (alignLoop fuel t) (alignLoop fuel t') := by
  induction fuel generalizing t t' with
  | zero => exact h
  | succ fuel ih =>
    obtain ⟨hresult, hnext⟩ := h.alignAttempt hcfg
    by_cases hm : (Machine.alignAttempt t).1 = .matched
    · rw [alignLoop_succeeds (Prod.ext hm rfl), alignLoop_succeeds (Prod.ext (hresult ▸ hm) rfl)]
      exact ⟨rfl, rfl, hnext.rx, hnext.streams⟩
    · have hcfg' : (Machine.alignAttempt t).2.cfg = (Machine.alignAttempt t').2.cfg := by
        rw [(alignAttempt_leaves t).1, (alignAttempt_leaves t').1, hcfg]
      have hatt' : (Machine.alignAttempt t).2.att = (Machine.alignAttempt t').2.att := by
        rw [alignAttempt_att_eq, alignAttempt_att_eq, hatt]
      rw [alignLoop_retries (t := (Machine.alignAttempt t).2) rfl hm,
        alignLoop_retries (t := (Machine.alignAttempt t').2) rfl (hresult ▸ hm), hatt']
      split_ifs
      · exact ⟨rfl, rfl, hnext.rx, hnext.streams⟩
      · exact ih hnext hcfg' hatt'

/-! ### The operations, from issue to report -/

theorem alignProcedure (h : SameEffects s s' t t') (hcfg : t.cfg = t'.cfg) :
    SameEffects s s' (alignProcedure t) (alignProcedure t') :=
  alignLoop (t := startAlign t) (t' := startAlign t') ⟨h.ok, h.err, h.rx, h.streams⟩ hcfg rfl _

theorem reportAck {r r' : WaitResult × State} (hresult : r.1 = r'.1) (h : SameEffects s s' r.2 r'.2) :
    SameEffects s s' (reportAck r) (reportAck r') := by
  obtain ⟨w, t⟩ := r
  obtain ⟨_, t'⟩ := r'
  cases hresult
  cases w <;> exact h.report _ _

theorem rstclkBody (h : SameEffects s s' t t') (arg : Tick) :
    SameEffects s s' (rstclkBody arg t) (rstclkBody arg t') := by
  have hsent := h.txWrite (encReset arg).bytes
  unfold Machine.rstclkBody
  split_ifs
  · exact hsent.report _ _
  · obtain ⟨hresult, hwait⟩ := hsent.waitReply (encReset arg) maxWaitFrames
    exact reportAck hresult hwait

theorem sendBody (h : SameEffects s s' t t') (f : Frame) : SameEffects s s' (sendBody f t) (sendBody f t') :=
  (h.txWrite f.bytes).report _ _

theorem takeMessage (h : SameEffects s s' t t') (r : RxAnswer) :
    SameEffects s s' (takeMessage r t) (takeMessage r t') := by
  cases r with
  | full f => exact (h.deliver _ f).report _ _
  | _ => exact ⟨rfl, rfl, h.rx, h.streams⟩

theorem rdmsgBody (h : SameEffects s s' t t') : SameEffects s s' (rdmsgBody t) (rdmsgBody t') := by
  rw [Machine.rdmsgBody, Machine.rdmsgBody, nextAnswer_congr h.rx]
  exact h.rxRead.takeMessage _

/-- The body of every host row. -/
theorem hostBody (h : SameEffects s s' t t') (hcfg : t.cfg = t'.cfg) (i : Instr) :
    SameEffects s s' (hostBody i t) (hostBody i t') := by
  cases i
  case align => exact h.alignProcedure hcfg
  case rstclk pa pb arg => exact h.rstclkBody arg
  case setp | setpb | sched => exact h.sendBody _
  case rdmsg => exact h.rdmsgBody
  case reservedOp0 | reservedOp1 | reservedOp2 | reservedOp3 | reservedOp4 | reservedOp5 | reservedOp6 =>
    exact h.report _ _
  all_goals exact h

end SameEffects

/-- Settles O30: both runs are the body from the issue, and `SameEffects` is kept from there to the report. -/
theorem operationsIgnoreAlignmentAndHistory : Obligations.OperationsIgnoreAlignmentAndHistory := by
  intro i s s' hi hfree hfree' hcfg hrx
  obtain ⟨c, hc⟩ := exists_command?_of_isHostOp hi
  obtain ⟨hok, herr, hrest, out, new, hstreams⟩ :=
    (SameEffects.issue hrx.symm c).hostBody (show s.cfg = s'.cfg from hcfg.symm) i
  exact ⟨_, _, out, new, exec_free hc hfree, exec_free hc hfree', hok, herr, hrest, hstreams⟩

end Sys2Proof.Machine
end

section
/-!
SUPPORT. How a host operation ends (R276, R240) and which operation may report which cause (R271): every body ends in a
report over the latch it was issued with, and the five forms of body report the causes of their own.
-/

namespace Sys2Proof.Machine

variable {s : State} {c : Command}

/-! ### What a cause code that fits its operation says (R271) -/

/-- No cause is reported together with OK. -/
theorem ErrInv.err_of_ok (h : ErrInv s) (hok : s.ok = true) : s.err = .none := by
  cases he : s.err
  case none => rfl
  all_goals simp [ErrInv, he, hok] at h

theorem ErrInv.of_waitFailure (h : ErrInv s) (he : s.err = .timeout ∨ s.err = .exhausted) : awaitsAck s.cmd = true := by
  rcases he with he | he <;>
  · simp only [ErrInv, he] at h
    exact h.1

theorem ErrInv.of_alignFail (h : ErrInv s) (he : s.err = .alignFail) :
    s.cmd.op = 0x01 ∧ s.align = .failed ∧ s.att = 6 := by
  simp only [ErrInv, he] at h
  obtain ⟨hop, -, halign, hatt⟩ := h
  exact ⟨hop, halign, BitVec.eq_of_toNat_eq hatt⟩

theorem ErrInv.of_illegalOp (h : ErrInv s) (he : s.err = .illegalOp) : reservedOp s.cmd.op = true := by
  simp only [ErrInv, he] at h
  exact h.1

/-! ### The end of an operation -/

/-- The operation of the command `c` has ended in `t`: it has reported, the latch still holds its word, and the report is
one that this operation makes (R240, R271, R276). -/
structure EndedAs (c : Command) (t : State) : Prop where
  reported : Reported t
  latch : t.cmd = c
  cause : ErrInv t
  silent : t.ok = false → t.err = .none → c.op = 0x06

/-- `report` ends an operation; what is left to show is that it makes that report. -/
theorem endedAs_report {o : Bool} {e : ErrCode} (hlatch : s.cmd = c) (hcause : ErrInv (report o e s))
    (hsilent : o = false → e = .none → c.op = 0x06) : EndedAs c (report o e s) :=
  ⟨⟨rfl, rfl, rfl⟩, hlatch, hcause, hsilent⟩

/-- Every operation may report success. -/
theorem endedAs_success (hlatch : s.cmd = c) : EndedAs c (report true .none s) :=
  endedAs_report hlatch trivial nofun

theorem endedAs_alignProcedure (hlatch : s.cmd = c) (hop : c.op = 0x01) : EndedAs c (alignProcedure s) := by
  have attempt (u : State) (hu : u.cmd = c) (_ : u.att.toNat < maxAlignAttempts) : (alignAttempt u).2.cmd = c := by
    obtain ⟨rs, cnt, e⟩ := alignAttempt_frame u
    rw [e]
    exact hu
  obtain ⟨u, hu, e | ⟨hatt, e⟩⟩ := alignProcedure_induction (s := s) (P := (·.cmd = c)) hlatch attempt <;> rw [e]
  · exact endedAs_success hu
  · exact endedAs_report hu ⟨hu ▸ hop, rfl, rfl, hatt⟩ nofun

theorem endedAs_reportAck {r : WaitResult × State} (hlatch : r.2.cmd = c) (hwaits : awaitsAck c = true) :
    EndedAs c (reportAck r) := by
  have hcause : awaitsAck r.2.cmd = true := hlatch ▸ hwaits
  obtain ⟨o, e, hr, ⟨rfl, rfl⟩ | ⟨rfl, rfl | rfl⟩⟩ := reportAck_reports r <;> rw [hr]
  · exact endedAs_success hlatch
  · exact endedAs_report hlatch ⟨hcause, rfl⟩ nofun
  · exact endedAs_report hlatch ⟨hcause, rfl⟩ nofun

theorem endedAs_rstclkBody (hlatch : s.cmd = c) (hop : c.op = 0x02) : EndedAs c (rstclkBody c.arg s) := by
  unfold rstclkBody
  split_ifs with harg
  · exact endedAs_success hlatch
  · refine endedAs_reportAck ?_ (awaitsAck_iff.2 ⟨hop, harg⟩)
    obtain ⟨rs, cnt, e, -⟩ := waitReply_frame (encReset c.arg) maxWaitFrames (txWrite (encReset c.arg).bytes s)
    rw [e]
    exact hlatch

theorem endedAs_rdmsgBody (hlatch : s.cmd = c) (hop : c.op = 0x06) : EndedAs c (rdmsgBody s) := by
  unfold rdmsgBody
  rcases takeMessage_cases (nextAnswer s) (rxRead s) with ⟨f, -, e⟩ | e <;> rw [e]
  · exact endedAs_success hlatch
  · exact endedAs_report hlatch trivial fun _ _ => hop

theorem endedAs_illegalBody (hlatch : s.cmd = c) (hop : reservedOp c.op = true) : EndedAs c (illegalBody s) :=
  endedAs_report hlatch ⟨hlatch ▸ hop, rfl⟩ nofun

/-- The body that a word's operation code selects ends as the operation of that word. -/
theorem endedAs_hostBody (c : Command) (hlatch : s.cmd = c) : EndedAs c (hostBody (decodeCommand c) s) := by
  rcases hostBody_decodeCommand c with ⟨hop, e⟩ | ⟨hop, e⟩ | ⟨f, -, e⟩ | ⟨hop, e⟩ | ⟨hop, e⟩ <;> rw [e]
  · exact endedAs_alignProcedure hlatch hop
  · exact endedAs_rstclkBody hlatch hop
  · exact endedAs_success hlatch
  · exact endedAs_rdmsgBody hlatch hop
  · exact endedAs_illegalBody hlatch hop

/-- Settles O27: a well-formed row is the one its word decodes to (`decodeCommand_of_command?`), so its body ends as
`endedAs_hostBody` says, and each cause names its operation (`ErrInv`). -/
theorem operationsEndReported : Obligations.OperationsEndReported := by
  intro i s t hi hwf _ ht
  obtain ⟨c, hc, -, rfl⟩ := exec_next hi ht
  obtain ⟨hreported, hlatch, hcause, hsilent⟩ := endedAs_hostBody (s := issue c s) c rfl
  rw [decodeCommand_of_command? hwf hc] at hreported hlatch hcause hsilent
  exact ⟨hreported, by rw [hlatch, hc], hcause.err_of_ok, by rwa [hlatch],
    fun he => awaitsAck_iff.1 (hcause.of_waitFailure he), hcause.of_alignFail, hcause.of_illegalOp⟩

end Sys2Proof.Machine
end

section
/-!
SUPPORT. A table word placed for the next step (notes/assumptions/2.md, 3.md): which bits of it are read, the frame its
bytes are, and the step that runs it.
-/

namespace Sys2Proof

/-! ### The bytes of a table word -/

/-- `n` bytes of a number are those of its low `8 * m` bits, for every `m` not below `n`. -/
theorem wordBytes_mod {n m : Nat} (h : n ≤ m) (w : Nat) : wordBytes n (w % 2 ^ (8 * m)) = wordBytes n w := by
  induction n with
  | zero => rfl
  | succ n ih =>
    have byte : BitVec.ofNat 8 ((w % 2 ^ (8 * m)) >>> (8 * n)) = BitVec.ofNat 8 (w >>> (8 * n)) := by
      refine BitVec.eq_of_getLsbD_eq fun i _ => ?_
      have below : 8 * n + i < 8 * m := by omega
      simp [BitVec.getLsbD_ofNat, below]
    rw [wordBytes, wordBytes, byte, ih (Nat.le_of_succ_le h)]

/-- The bytes of a 40-bit table word are those of its frame, byte 0 first (R10, R100). -/
theorem wordBytes_bits (f : Frame) : wordBytes 5 f.bits.toNat = f.bytes := by
  obtain ⟨h0, h1, h2, h3, h4⟩ := Machine.frame_bits_bytes f
  rw [Frame.bytes, ← h0, ← h1, ← h2, ← h3, ← h4]
  rfl

theorem wordBytes_of_bits {f : Frame} {w : Nat} (h : f.bits = BitVec.ofNat 40 w) : wordBytes 5 w = f.bytes := by
  rw [← wordBytes_bits, h, BitVec.toNat_ofNat, ← wordBytes_mod (Nat.le_refl 5)]

/-- Of the number of an HC word its low 56 bits are read, those that are placed at the HOST port. -/
theorem decodeTableWord_toNat_ofNat (w : Nat) :
    decodeTableWord 56 (BitVec.ofNat 56 w).toNat = decodeTableWord 56 w := by
  have read (v : Nat) : decodeTableWord 56 v = (decode .host (wordBytes 7 v)).toOption := rfl
  rw [read, read, BitVec.toNat_ofNat, ← wordBytes_mod (Nat.le_refl 7) w]

theorem decodeTableWord_of_bits {f : Frame} {w : Nat} (h : f.bits = BitVec.ofNat 40 w) :
    decodeTableWord 40 w = some (decodeInbound f) := by
  have read : decodeTableWord 40 w = (decode .rx (wordBytes 5 w)).toOption := rfl
  rw [read, wordBytes_of_bits h, decode_rx_bytes]
  rfl

/-- The only 48-bit table word is the probe (R105). -/
theorem probe_of_decodeTableWord {w : Nat} {i : Instr} (h : decodeTableWord 48 w = some i) :
    wordBytes 6 w = probeBytes ∧ i = .probe := by
  have read : decodeTableWord 48 w = (decodeOutbound (wordBytes 6 w)).toOption := rfl
  simp only [read, wordBytes, decodeOutbound] at h
  split_ifs at h with hprobe <;> cases h
  exact ⟨hprobe, rfl⟩

namespace Machine

variable {s : State} {w : Nat}

/-! ### The placed word -/

theorem withFetchWord_inbound {f : Frame} (h : wordBytes 5 w = f.bytes) : s.withFetchWord 40 w = placeInbound f s := by
  have placed : s.withFetchWord 40 w = placeWord s 40 w := rfl
  simp only [placed, placeWord, portOfWidth, h, Frame.bytes]

theorem withFetchWord_probe (h : wordBytes 6 w = probeBytes) : s.withFetchWord 48 w = placeProbe s := if_pos h

/-! ### The step that runs it -/

theorem step_placeInbound (f : Frame) (s : State) :
    step (placeInbound f s) = onNext (report true .none) (exec (decodeInbound f) { s with
      cmd := ⟨0x06, 0, 0, 0⟩, busy := true, phase := .msgRx, trace := s.trace ++ [.rx 5 (.full f)] }) :=
  step_pass rfl

theorem step_placeProbe (s : State) :
    step (placeProbe s) = alignTxStep { s with cmd := ⟨0x01, 0, 0, 0⟩, busy := true, phase := .alignTx } :=
  step_pass rfl

/-- Settles O43, width by width: a call runs the row read from its word (`stepRunsTheCalledWord`); the frame and the
probe are what the sequencer takes in the phase they are placed in. -/
theorem fetchedTableWordIsRunNext : Obligations.FetchedTableWordIsRunNext := by
  refine ⟨fun s w i hi => ?_, fun s w i f hi hf => ?_, fun s w i hi => ?_⟩
  · obtain ⟨free, -⟩ := stepRunsTheCalledWord (placeCommand w s) (.ofNat 56 w) s.host i rfl
      ((decodeTableWord_toNat_ofNat w).trans hi)
    exact free rfl
  · cases (decodeTableWord_of_bits hf).symm.trans hi
    rw [withFetchWord_inbound (wordBytes_of_bits hf), step_placeInbound]
  · obtain ⟨hbytes, rfl⟩ := probe_of_decodeTableWord hi
    rw [withFetchWord_probe hbytes, step_placeProbe]
    rfl

end Machine

end Sys2Proof
end
